-- ==== Sys2Proof/Config.lean ====
section
/-! DEFINITION. What is fixed when the block is built: the constants of 00_scope.md R4 and the open
parameters of R5. -/
namespace Sys2Proof

/-- `TICK_MS` (R4): counts of `MS` from one tick to the next. -/
def tickMs : Nat := 10

/-- `KEY_DELAY_MS` (R4): the mute-to-key delay. -/
def keyDelayMs : Nat := 250

/-- `TX_TIMEOUT_MS` (R4): the longest continuous keyed time. -/
def txTimeoutMs : Nat := 600000

/-- `UNMUTE_DELAY_MS` (R4): the unkey-to-unmute delay. -/
def unmuteDelayMs : Nat := 250

/-- `LONG_PRESS_MS` (R4): the KNOB long-press threshold, inclusive. -/
def longPressMs : Nat := 1000

/-- The parameters the document leaves open (R5). Each is an argument of the model; `State` carries them
beside the registers and no operation changes them (10_state.md R27 (a); DESIGN CHOICE, log entry 2; safe). -/
structure Params where
  /-- `W`: width in bits of `MS`, `DEADLINE` and `KNOB_T0`. -/
  w : Nat
  /-- `DETENT_THRESH`: quadrature counts per emitted pulse. -/
  detentThresh : Nat
  /-- `SWQ_DEPTH`: capacity of the switch event queue. -/
  swqDepth : Nat
  /-- `ENCQ_DEPTH`: capacity of the encoder pulse queue. -/
  encqDepth : Nat
  /-- `ERRW`: width in bits of each overflow error counter. -/
  errw : Nat
  /-- `TUNE_OUT_WHEN_BOTH`: what tune-out takes when PTT and TUNE are both asserted at the keying tick. -/
  tuneOutWhenBoth : Bool
  deriving DecidableEq, Repr

/-- The constraints of R5 on the open parameters. -/
abbrev Params.Ok (c : Params) : Prop :=
  21 ≤ c.w ∧ 1 ≤ c.detentThresh ∧ 1 ≤ c.swqDepth ∧ 1 ≤ c.encqDepth ∧ 1 ≤ c.errw

/-- The defaults of R5. -/
def Params.default : Params where
  w := 32
  detentThresh := 4
  swqDepth := 16
  encqDepth := 16
  errw := 32
  tuneOutWhenBoth := true

end Sys2Proof
end

