-- ==== Sys2Proof/Word.lean ====
section
/-! DEFINITION. The words the block decodes (30_encoding.md, opening table): one type per format. -/
namespace Sys2Proof

/-- A stimulus word, format `OP`: eight bits (R41). -/
abbrev StimWord := BitVec 8

/-- A sequencer transition select word, format `SEQT`: `SEQ[2:0] : any : tsel : expired` (R48). -/
abbrev SeqtWord := BitVec 6

/-- A switch edge select word, format `EDGE`: `line[1:0] : prev : cur : lng` (R49). -/
abbrev EdgeWord := BitVec 5

/-- A quadrature transition select word, format `QT`: `prevA : prevB : A : B` (R50). -/
abbrev QtWord := BitVec 4

/-- The four decode points of the block. Only `OP` words come from outside it. -/
inductive Format where
  | op
  | seqt
  | edge
  | qt
  deriving DecidableEq, Repr

/-- A word at one of the four decode points. -/
inductive CodeWord where
  | op (w : StimWord)
  | seqt (w : SeqtWord)
  | edge (w : EdgeWord)
  | qt (w : QtWord)
  deriving DecidableEq, Repr

/-- The decode point a word stands at. -/
def CodeWord.format : CodeWord → Format
  | .op _ => .op
  | .seqt _ => .seqt
  | .edge _ => .edge
  | .qt _ => .qt

/-- The word as an unsigned number, bit 0 least significant. -/
def CodeWord.toNat : CodeWord → Nat
  | .op w => w.toNat
  | .seqt w => w.toNat
  | .edge w => w.toNat
  | .qt w => w.toNat

/-- A time of the millisecond clock: a number below `2^W`, `W` being a parameter (R5, R11). -/
abbrev Time := Nat

end Sys2Proof
end

