-- ==== Sys2Proof/Syntax.lean ====
section
/-! DEFINITION. The operations and decode rows of the block: one constructor for each of the 48 rows of
`spec/opcode_table.json` (R42, R48, R49, R50). The operands are the bits of the row's word that the row
does not fix; the bits a select-word row ignores are operands its meaning does not read, so that a word
and its instruction determine each other (DESIGN CHOICE, log entry 4; safe). -/
namespace Sys2Proof

/-- The instructions: six operations (`OP`), thirteen sequencer transitions (`SEQT`), thirteen switch edge
rows (`EDGE`) and sixteen quadrature rows (`QT`). -/
inductive Instr where
  /-- `NOP`: a cycle with no strobe (R115). -/
  | nop
  /-- `MSINC`: one millisecond elapses; the operands are the three raw pin levels, 1 = released (R105). -/
  | msinc (pttN tuneN knobN : Bool)
  /-- `QSAMPLE`: one sample of the two phase lines (R55). -/
  | qsample (encA encB : Bool)
  /-- `POPSW`: the host takes one switch event (R116). -/
  | popsw
  /-- `POPENC`: the host takes one encoder pulse (R117). -/
  | popenc
  /-- `RESET`: every register takes its reset value (R118). -/
  | reset
  /-- `SEQ.IDLE.HOLD`: from IDLE to IDLE (R87). -/
  | seqIdleHold (tsel expired : Bool)
  /-- `SEQ.IDLE.KEY`: from IDLE to KEY_WAIT (R88). -/
  | seqIdleKey (tsel expired : Bool)
  /-- `SEQ.KEYWAIT.ABORT`: from KEY_WAIT to IDLE (R89). -/
  | seqKeywaitAbort (tsel expired : Bool)
  /-- `SEQ.KEYWAIT.HOLD`: from KEY_WAIT to KEY_WAIT (R92). -/
  | seqKeywaitHold (tsel : Bool)
  /-- `SEQ.KEYWAIT.KEYPTT`: from KEY_WAIT to KEYED (R90). -/
  | seqKeywaitKeyptt
  /-- `SEQ.KEYWAIT.KEYTUNE`: from KEY_WAIT to KEYED (R91). -/
  | seqKeywaitKeytune
  /-- `SEQ.KEYED.UNKEY`: from KEYED to UNMUTE_WAIT (R93). -/
  | seqKeyedUnkey (tsel expired : Bool)
  /-- `SEQ.KEYED.HOLD`: from KEYED to KEYED (R95). -/
  | seqKeyedHold (tsel : Bool)
  /-- `SEQ.KEYED.TIMEOUT`: from KEYED to TIMED_OUT (R94). -/
  | seqKeyedTimeout (tsel : Bool)
  /-- `SEQ.UNMUTE.HOLD`: from UNMUTE_WAIT to UNMUTE_WAIT (R97). -/
  | seqUnmuteHold (any tsel : Bool)
  /-- `SEQ.UNMUTE.DONE`: from UNMUTE_WAIT to IDLE (R96). -/
  | seqUnmuteDone (any tsel : Bool)
  /-- `SEQ.TIMEDOUT.EXIT`: from TIMED_OUT to IDLE (R98). -/
  | seqTimedoutExit (tsel expired : Bool)
  /-- `SEQ.TIMEDOUT.HOLD`: from TIMED_OUT to TIMED_OUT (R99). -/
  | seqTimedoutHold (tsel expired : Bool)
  /-- `EDGE.PTT.IDLE`: none (R80). -/
  | edgePttIdle (lng : Bool)
  /-- `EDGE.PTT.PRESS`: push PTT_PRESSED (code 1) (R73). -/
  | edgePttPress (lng : Bool)
  /-- `EDGE.PTT.RELEASE`: push PTT_RELEASED (code 2) (R74). -/
  | edgePttRelease (lng : Bool)
  /-- `EDGE.PTT.HELD`: none (R80). -/
  | edgePttHeld (lng : Bool)
  /-- `EDGE.TUNE.IDLE`: none (R80). -/
  | edgeTuneIdle (lng : Bool)
  /-- `EDGE.TUNE.PRESS`: push TUNE_PRESSED (code 3) (R75). -/
  | edgeTunePress (lng : Bool)
  /-- `EDGE.TUNE.RELEASE`: push TUNE_RELEASED (code 4) (R76). -/
  | edgeTuneRelease (lng : Bool)
  /-- `EDGE.TUNE.HELD`: none (R80). -/
  | edgeTuneHeld (lng : Bool)
  /-- `EDGE.KNOB.IDLE`: none (R80). -/
  | edgeKnobIdle (lng : Bool)
  /-- `EDGE.KNOB.PRESS`: KNOB_T0 <- now, no event (R77). -/
  | edgeKnobPress (lng : Bool)
  /-- `EDGE.KNOB.RELEASE.SHORT`: push KNOB_RELEASED (code 5) (R78). -/
  | edgeKnobReleaseShort
  /-- `EDGE.KNOB.RELEASE.LONG`: push KNOB_RELEASED_LONG (code 6) (R79). -/
  | edgeKnobReleaseLong
  /-- `EDGE.KNOB.HELD`: none (R80). -/
  | edgeKnobHeld (lng : Bool)
  /-- `QT.0000`: repeat, count 0 (R59). -/
  | qt0000
  /-- `QT.0001`: valid, backward, count -1 (R58). -/
  | qt0001
  /-- `QT.0010`: valid, forward, count 1 (R57). -/
  | qt0010
  /-- `QT.0011`: invalid (both changed), count 0 (R60). -/
  | qt0011
  /-- `QT.0100`: valid, forward, count 1 (R57). -/
  | qt0100
  /-- `QT.0101`: repeat, count 0 (R59). -/
  | qt0101
  /-- `QT.0110`: invalid (both changed), count 0 (R60). -/
  | qt0110
  /-- `QT.0111`: valid, backward, count -1 (R58). -/
  | qt0111
  /-- `QT.1000`: valid, backward, count -1 (R58). -/
  | qt1000
  /-- `QT.1001`: invalid (both changed), count 0 (R60). -/
  | qt1001
  /-- `QT.1010`: repeat, count 0 (R59). -/
  | qt1010
  /-- `QT.1011`: valid, forward, count 1 (R57). -/
  | qt1011
  /-- `QT.1100`: invalid (both changed), count 0 (R60). -/
  | qt1100
  /-- `QT.1101`: valid, forward, count 1 (R57). -/
  | qt1101
  /-- `QT.1110`: valid, backward, count -1 (R58). -/
  | qt1110
  /-- `QT.1111`: repeat, count 0 (R59). -/
  | qt1111
  deriving DecidableEq, Repr

/-- The three agents that act on the block (R6). -/
inductive Agent where
  | timebase
  | quadratureSampler
  | host
  deriving DecidableEq, Repr

/-- One row of the opcode table: its format, width, pattern and mask, and its mnemonic. -/
structure Row where
  format : Format
  width : Nat
  pattern : Nat
  mask : Nat
  mnemonic : String
  deriving DecidableEq, Repr

end Sys2Proof
end

