-- ==== Sys2Proof/Decode.lean ====
section
/-! DEFINITION. The four decoders of 30_encoding.md, each total and rejecting by name, and the encoder that
writes an instruction's word from the same tables. -/
namespace Sys2Proof

/-- Why a word is refused (R44, R51). -/
inductive DecodeError where
  /-- `op` is `0b101` or `0b110` (R44). -/
  | reservedOp
  /-- `z` is not `0b00` (R44). -/
  | nonzeroZ
  /-- an operand bit that the operation requires to be 0 is 1 (R44). -/
  | nonzeroArg
  /-- a `SEQT` word with `SEQ` = 5, 6 or 7 (R100). -/
  | reservedSeqCode
  /-- an `EDGE` word with `line` = `0b11` (R49). -/
  | reservedLine
  deriving DecidableEq, Repr

/-- Decodes a stimulus word by its fields `op` = `S[7:5]`, `z` = `S[4:3]`, `arg` = `S[2:0]` (R41 to R44). -/
def decodeOp (S : StimWord) : Except DecodeError Instr :=
  let op := S.extractLsb' 5 3
  let z := S.extractLsb' 3 2
  let arg := S.extractLsb' 0 3
  let noArg := fun (i : Instr) => if arg = 0b000#3 then Except.ok i else .error .nonzeroArg
  if op = 0b101#3 ∨ op = 0b110#3 then .error .reservedOp
  else if z ≠ 0b00#2 then .error .nonzeroZ
  else if op = 0b000#3 then noArg .nop
  else if op = 0b001#3 then .ok (.msinc (S.getLsbD 2) (S.getLsbD 1) (S.getLsbD 0))
  else if op = 0b010#3 then
    if S.getLsbD 2 then .error .nonzeroArg else .ok (.qsample (S.getLsbD 1) (S.getLsbD 0))
  else if op = 0b011#3 then noArg .popsw
  else if op = 0b100#3 then noArg .popenc
  else noArg .reset

/-- Decodes a sequencer select word by `SEQ` = `T[5:3]`, `any` = `T[2]`, `tsel` = `T[1]`, `expired` = `T[0]` (R48). -/
def decodeSeqt (T : SeqtWord) : Except DecodeError Instr :=
  match (T.extractLsb' 3 3).toNat, T.getLsbD 2, T.getLsbD 1, T.getLsbD 0 with
  | 0, false, tsel, expired => .ok (.seqIdleHold tsel expired)
  | 0, true, tsel, expired => .ok (.seqIdleKey tsel expired)
  | 1, false, tsel, expired => .ok (.seqKeywaitAbort tsel expired)
  | 1, true, tsel, false => .ok (.seqKeywaitHold tsel)
  | 1, true, false, true => .ok (.seqKeywaitKeyptt)
  | 1, true, true, true => .ok (.seqKeywaitKeytune)
  | 2, false, tsel, expired => .ok (.seqKeyedUnkey tsel expired)
  | 2, true, tsel, false => .ok (.seqKeyedHold tsel)
  | 2, true, tsel, true => .ok (.seqKeyedTimeout tsel)
  | 3, any, tsel, false => .ok (.seqUnmuteHold any tsel)
  | 3, any, tsel, true => .ok (.seqUnmuteDone any tsel)
  | 4, false, tsel, expired => .ok (.seqTimedoutExit tsel expired)
  | 4, true, tsel, expired => .ok (.seqTimedoutHold tsel expired)
  | _, _, _, _ => .error .reservedSeqCode

/-- Decodes a switch edge select word by `line` = `E[4:3]`, `prev` = `E[2]`, `cur` = `E[1]`, `lng` = `E[0]` (R49). -/
def decodeEdge (E : EdgeWord) : Except DecodeError Instr :=
  match (E.extractLsb' 3 2).toNat, E.getLsbD 2, E.getLsbD 1, E.getLsbD 0 with
  | 0, false, false, lng => .ok (.edgePttIdle lng)
  | 0, false, true, lng => .ok (.edgePttPress lng)
  | 0, true, false, lng => .ok (.edgePttRelease lng)
  | 0, true, true, lng => .ok (.edgePttHeld lng)
  | 1, false, false, lng => .ok (.edgeTuneIdle lng)
  | 1, false, true, lng => .ok (.edgeTunePress lng)
  | 1, true, false, lng => .ok (.edgeTuneRelease lng)
  | 1, true, true, lng => .ok (.edgeTuneHeld lng)
  | 2, false, false, lng => .ok (.edgeKnobIdle lng)
  | 2, false, true, lng => .ok (.edgeKnobPress lng)
  | 2, true, false, false => .ok (.edgeKnobReleaseShort)
  | 2, true, false, true => .ok (.edgeKnobReleaseLong)
  | 2, true, true, lng => .ok (.edgeKnobHeld lng)
  | _, _, _, _ => .error .reservedLine

/-- Decodes a quadrature select word by `prevA`, `prevB`, `A`, `B`; the format has no reserved word (R50). -/
def decodeQt (Q : QtWord) : Instr :=
  match Q.getLsbD 3, Q.getLsbD 2, Q.getLsbD 1, Q.getLsbD 0 with
  | false, false, false, false => .qt0000
  | false, false, false, true => .qt0001
  | false, false, true, false => .qt0010
  | false, false, true, true => .qt0011
  | false, true, false, false => .qt0100
  | false, true, false, true => .qt0101
  | false, true, true, false => .qt0110
  | false, true, true, true => .qt0111
  | true, false, false, false => .qt1000
  | true, false, false, true => .qt1001
  | true, false, true, false => .qt1010
  | true, false, true, true => .qt1011
  | true, true, false, false => .qt1100
  | true, true, false, true => .qt1101
  | true, true, true, false => .qt1110
  | true, true, true, true => .qt1111

/-- Decodes a word at its decode point. -/
def decode : CodeWord → Except DecodeError Instr
  | .op w => decodeOp w
  | .seqt w => decodeSeqt w
  | .edge w => decodeEdge w
  | .qt w => .ok (decodeQt w)

/-- The word of an instruction, field by field from the tables of R42, R48, R49 and R50. -/
def encode : Instr → CodeWord
  | .nop => .op (0b000#3 ++ 0b00#2 ++ 0b000#3)
  | .msinc pttN tuneN knobN => .op (0b001#3 ++ 0b00#2 ++ BitVec.ofBool pttN ++ BitVec.ofBool tuneN ++ BitVec.ofBool knobN)
  | .qsample encA encB => .op (0b010#3 ++ 0b00#2 ++ 0b0#1 ++ BitVec.ofBool encA ++ BitVec.ofBool encB)
  | .popsw => .op (0b011#3 ++ 0b00#2 ++ 0b000#3)
  | .popenc => .op (0b100#3 ++ 0b00#2 ++ 0b000#3)
  | .reset => .op (0b111#3 ++ 0b00#2 ++ 0b000#3)
  | .seqIdleHold tsel expired => .seqt (0b000#3 ++ 0b0#1 ++ BitVec.ofBool tsel ++ BitVec.ofBool expired)
  | .seqIdleKey tsel expired => .seqt (0b000#3 ++ 0b1#1 ++ BitVec.ofBool tsel ++ BitVec.ofBool expired)
  | .seqKeywaitAbort tsel expired => .seqt (0b001#3 ++ 0b0#1 ++ BitVec.ofBool tsel ++ BitVec.ofBool expired)
  | .seqKeywaitHold tsel => .seqt (0b001#3 ++ 0b1#1 ++ BitVec.ofBool tsel ++ 0b0#1)
  | .seqKeywaitKeyptt => .seqt (0b001#3 ++ 0b1#1 ++ 0b0#1 ++ 0b1#1)
  | .seqKeywaitKeytune => .seqt (0b001#3 ++ 0b1#1 ++ 0b1#1 ++ 0b1#1)
  | .seqKeyedUnkey tsel expired => .seqt (0b010#3 ++ 0b0#1 ++ BitVec.ofBool tsel ++ BitVec.ofBool expired)
  | .seqKeyedHold tsel => .seqt (0b010#3 ++ 0b1#1 ++ BitVec.ofBool tsel ++ 0b0#1)
  | .seqKeyedTimeout tsel => .seqt (0b010#3 ++ 0b1#1 ++ BitVec.ofBool tsel ++ 0b1#1)
  | .seqUnmuteHold any tsel => .seqt (0b011#3 ++ BitVec.ofBool any ++ BitVec.ofBool tsel ++ 0b0#1)
  | .seqUnmuteDone any tsel => .seqt (0b011#3 ++ BitVec.ofBool any ++ BitVec.ofBool tsel ++ 0b1#1)
  | .seqTimedoutExit tsel expired => .seqt (0b100#3 ++ 0b0#1 ++ BitVec.ofBool tsel ++ BitVec.ofBool expired)
  | .seqTimedoutHold tsel expired => .seqt (0b100#3 ++ 0b1#1 ++ BitVec.ofBool tsel ++ BitVec.ofBool expired)
  | .edgePttIdle lng => .edge (0b00#2 ++ 0b0#1 ++ 0b0#1 ++ BitVec.ofBool lng)
  | .edgePttPress lng => .edge (0b00#2 ++ 0b0#1 ++ 0b1#1 ++ BitVec.ofBool lng)
  | .edgePttRelease lng => .edge (0b00#2 ++ 0b1#1 ++ 0b0#1 ++ BitVec.ofBool lng)
  | .edgePttHeld lng => .edge (0b00#2 ++ 0b1#1 ++ 0b1#1 ++ BitVec.ofBool lng)
  | .edgeTuneIdle lng => .edge (0b01#2 ++ 0b0#1 ++ 0b0#1 ++ BitVec.ofBool lng)
  | .edgeTunePress lng => .edge (0b01#2 ++ 0b0#1 ++ 0b1#1 ++ BitVec.ofBool lng)
  | .edgeTuneRelease lng => .edge (0b01#2 ++ 0b1#1 ++ 0b0#1 ++ BitVec.ofBool lng)
  | .edgeTuneHeld lng => .edge (0b01#2 ++ 0b1#1 ++ 0b1#1 ++ BitVec.ofBool lng)
  | .edgeKnobIdle lng => .edge (0b10#2 ++ 0b0#1 ++ 0b0#1 ++ BitVec.ofBool lng)
  | .edgeKnobPress lng => .edge (0b10#2 ++ 0b0#1 ++ 0b1#1 ++ BitVec.ofBool lng)
  | .edgeKnobReleaseShort => .edge (0b10#2 ++ 0b1#1 ++ 0b0#1 ++ 0b0#1)
  | .edgeKnobReleaseLong => .edge (0b10#2 ++ 0b1#1 ++ 0b0#1 ++ 0b1#1)
  | .edgeKnobHeld lng => .edge (0b10#2 ++ 0b1#1 ++ 0b1#1 ++ BitVec.ofBool lng)
  | .qt0000 => .qt (0b00#2 ++ 0b00#2)
  | .qt0001 => .qt (0b00#2 ++ 0b01#2)
  | .qt0010 => .qt (0b00#2 ++ 0b10#2)
  | .qt0011 => .qt (0b00#2 ++ 0b11#2)
  | .qt0100 => .qt (0b01#2 ++ 0b00#2)
  | .qt0101 => .qt (0b01#2 ++ 0b01#2)
  | .qt0110 => .qt (0b01#2 ++ 0b10#2)
  | .qt0111 => .qt (0b01#2 ++ 0b11#2)
  | .qt1000 => .qt (0b10#2 ++ 0b00#2)
  | .qt1001 => .qt (0b10#2 ++ 0b01#2)
  | .qt1010 => .qt (0b10#2 ++ 0b10#2)
  | .qt1011 => .qt (0b10#2 ++ 0b11#2)
  | .qt1100 => .qt (0b11#2 ++ 0b00#2)
  | .qt1101 => .qt (0b11#2 ++ 0b01#2)
  | .qt1110 => .qt (0b11#2 ++ 0b10#2)
  | .qt1111 => .qt (0b11#2 ++ 0b11#2)

/-- The format of an instruction's row. -/
def Instr.format : Instr → Format
  | .nop => .op
  | .msinc _ _ _ => .op
  | .qsample _ _ => .op
  | .popsw => .op
  | .popenc => .op
  | .reset => .op
  | .seqIdleHold _ _ => .seqt
  | .seqIdleKey _ _ => .seqt
  | .seqKeywaitAbort _ _ => .seqt
  | .seqKeywaitHold _ => .seqt
  | .seqKeywaitKeyptt => .seqt
  | .seqKeywaitKeytune => .seqt
  | .seqKeyedUnkey _ _ => .seqt
  | .seqKeyedHold _ => .seqt
  | .seqKeyedTimeout _ => .seqt
  | .seqUnmuteHold _ _ => .seqt
  | .seqUnmuteDone _ _ => .seqt
  | .seqTimedoutExit _ _ => .seqt
  | .seqTimedoutHold _ _ => .seqt
  | .edgePttIdle _ => .edge
  | .edgePttPress _ => .edge
  | .edgePttRelease _ => .edge
  | .edgePttHeld _ => .edge
  | .edgeTuneIdle _ => .edge
  | .edgeTunePress _ => .edge
  | .edgeTuneRelease _ => .edge
  | .edgeTuneHeld _ => .edge
  | .edgeKnobIdle _ => .edge
  | .edgeKnobPress _ => .edge
  | .edgeKnobReleaseShort => .edge
  | .edgeKnobReleaseLong => .edge
  | .edgeKnobHeld _ => .edge
  | .qt0000 => .qt
  | .qt0001 => .qt
  | .qt0010 => .qt
  | .qt0011 => .qt
  | .qt0100 => .qt
  | .qt0101 => .qt
  | .qt0110 => .qt
  | .qt0111 => .qt
  | .qt1000 => .qt
  | .qt1001 => .qt
  | .qt1010 => .qt
  | .qt1011 => .qt
  | .qt1100 => .qt
  | .qt1101 => .qt
  | .qt1110 => .qt
  | .qt1111 => .qt

/-- The agent that performs an instruction: R42's column for the operations; a tick's select rows are the
timebase's and the quadrature rows the quadrature sampler's (R6). -/
def Instr.agent : Instr → Agent
  | .nop => .host
  | .msinc _ _ _ => .timebase
  | .qsample _ _ => .quadratureSampler
  | .popsw => .host
  | .popenc => .host
  | .reset => .host
  | .seqIdleHold _ _ => .timebase
  | .seqIdleKey _ _ => .timebase
  | .seqKeywaitAbort _ _ => .timebase
  | .seqKeywaitHold _ => .timebase
  | .seqKeywaitKeyptt => .timebase
  | .seqKeywaitKeytune => .timebase
  | .seqKeyedUnkey _ _ => .timebase
  | .seqKeyedHold _ => .timebase
  | .seqKeyedTimeout _ => .timebase
  | .seqUnmuteHold _ _ => .timebase
  | .seqUnmuteDone _ _ => .timebase
  | .seqTimedoutExit _ _ => .timebase
  | .seqTimedoutHold _ _ => .timebase
  | .edgePttIdle _ => .timebase
  | .edgePttPress _ => .timebase
  | .edgePttRelease _ => .timebase
  | .edgePttHeld _ => .timebase
  | .edgeTuneIdle _ => .timebase
  | .edgeTunePress _ => .timebase
  | .edgeTuneRelease _ => .timebase
  | .edgeTuneHeld _ => .timebase
  | .edgeKnobIdle _ => .timebase
  | .edgeKnobPress _ => .timebase
  | .edgeKnobReleaseShort => .timebase
  | .edgeKnobReleaseLong => .timebase
  | .edgeKnobHeld _ => .timebase
  | .qt0000 => .quadratureSampler
  | .qt0001 => .quadratureSampler
  | .qt0010 => .quadratureSampler
  | .qt0011 => .quadratureSampler
  | .qt0100 => .quadratureSampler
  | .qt0101 => .quadratureSampler
  | .qt0110 => .quadratureSampler
  | .qt0111 => .quadratureSampler
  | .qt1000 => .quadratureSampler
  | .qt1001 => .quadratureSampler
  | .qt1010 => .quadratureSampler
  | .qt1011 => .quadratureSampler
  | .qt1100 => .quadratureSampler
  | .qt1101 => .quadratureSampler
  | .qt1110 => .quadratureSampler
  | .qt1111 => .quadratureSampler

/-- The opcode table: each instruction's row with its pattern and mask (R42, R48 to R50). -/
def Instr.row : Instr → Row
  | .nop => ⟨.op, 8, 0b0, 0b11111111, "NOP"⟩
  | .msinc _ _ _ => ⟨.op, 8, 0b100000, 0b11111000, "MSINC"⟩
  | .qsample _ _ => ⟨.op, 8, 0b1000000, 0b11111100, "QSAMPLE"⟩
  | .popsw => ⟨.op, 8, 0b1100000, 0b11111111, "POPSW"⟩
  | .popenc => ⟨.op, 8, 0b10000000, 0b11111111, "POPENC"⟩
  | .reset => ⟨.op, 8, 0b11100000, 0b11111111, "RESET"⟩
  | .seqIdleHold _ _ => ⟨.seqt, 6, 0b0, 0b111100, "SEQ.IDLE.HOLD"⟩
  | .seqIdleKey _ _ => ⟨.seqt, 6, 0b100, 0b111100, "SEQ.IDLE.KEY"⟩
  | .seqKeywaitAbort _ _ => ⟨.seqt, 6, 0b1000, 0b111100, "SEQ.KEYWAIT.ABORT"⟩
  | .seqKeywaitHold _ => ⟨.seqt, 6, 0b1100, 0b111101, "SEQ.KEYWAIT.HOLD"⟩
  | .seqKeywaitKeyptt => ⟨.seqt, 6, 0b1101, 0b111111, "SEQ.KEYWAIT.KEYPTT"⟩
  | .seqKeywaitKeytune => ⟨.seqt, 6, 0b1111, 0b111111, "SEQ.KEYWAIT.KEYTUNE"⟩
  | .seqKeyedUnkey _ _ => ⟨.seqt, 6, 0b10000, 0b111100, "SEQ.KEYED.UNKEY"⟩
  | .seqKeyedHold _ => ⟨.seqt, 6, 0b10100, 0b111101, "SEQ.KEYED.HOLD"⟩
  | .seqKeyedTimeout _ => ⟨.seqt, 6, 0b10101, 0b111101, "SEQ.KEYED.TIMEOUT"⟩
  | .seqUnmuteHold _ _ => ⟨.seqt, 6, 0b11000, 0b111001, "SEQ.UNMUTE.HOLD"⟩
  | .seqUnmuteDone _ _ => ⟨.seqt, 6, 0b11001, 0b111001, "SEQ.UNMUTE.DONE"⟩
  | .seqTimedoutExit _ _ => ⟨.seqt, 6, 0b100000, 0b111100, "SEQ.TIMEDOUT.EXIT"⟩
  | .seqTimedoutHold _ _ => ⟨.seqt, 6, 0b100100, 0b111100, "SEQ.TIMEDOUT.HOLD"⟩
  | .edgePttIdle _ => ⟨.edge, 5, 0b0, 0b11110, "EDGE.PTT.IDLE"⟩
  | .edgePttPress _ => ⟨.edge, 5, 0b10, 0b11110, "EDGE.PTT.PRESS"⟩
  | .edgePttRelease _ => ⟨.edge, 5, 0b100, 0b11110, "EDGE.PTT.RELEASE"⟩
  | .edgePttHeld _ => ⟨.edge, 5, 0b110, 0b11110, "EDGE.PTT.HELD"⟩
  | .edgeTuneIdle _ => ⟨.edge, 5, 0b1000, 0b11110, "EDGE.TUNE.IDLE"⟩
  | .edgeTunePress _ => ⟨.edge, 5, 0b1010, 0b11110, "EDGE.TUNE.PRESS"⟩
  | .edgeTuneRelease _ => ⟨.edge, 5, 0b1100, 0b11110, "EDGE.TUNE.RELEASE"⟩
  | .edgeTuneHeld _ => ⟨.edge, 5, 0b1110, 0b11110, "EDGE.TUNE.HELD"⟩
  | .edgeKnobIdle _ => ⟨.edge, 5, 0b10000, 0b11110, "EDGE.KNOB.IDLE"⟩
  | .edgeKnobPress _ => ⟨.edge, 5, 0b10010, 0b11110, "EDGE.KNOB.PRESS"⟩
  | .edgeKnobReleaseShort => ⟨.edge, 5, 0b10100, 0b11111, "EDGE.KNOB.RELEASE.SHORT"⟩
  | .edgeKnobReleaseLong => ⟨.edge, 5, 0b10101, 0b11111, "EDGE.KNOB.RELEASE.LONG"⟩
  | .edgeKnobHeld _ => ⟨.edge, 5, 0b10110, 0b11110, "EDGE.KNOB.HELD"⟩
  | .qt0000 => ⟨.qt, 4, 0b0, 0b1111, "QT.0000"⟩
  | .qt0001 => ⟨.qt, 4, 0b1, 0b1111, "QT.0001"⟩
  | .qt0010 => ⟨.qt, 4, 0b10, 0b1111, "QT.0010"⟩
  | .qt0011 => ⟨.qt, 4, 0b11, 0b1111, "QT.0011"⟩
  | .qt0100 => ⟨.qt, 4, 0b100, 0b1111, "QT.0100"⟩
  | .qt0101 => ⟨.qt, 4, 0b101, 0b1111, "QT.0101"⟩
  | .qt0110 => ⟨.qt, 4, 0b110, 0b1111, "QT.0110"⟩
  | .qt0111 => ⟨.qt, 4, 0b111, 0b1111, "QT.0111"⟩
  | .qt1000 => ⟨.qt, 4, 0b1000, 0b1111, "QT.1000"⟩
  | .qt1001 => ⟨.qt, 4, 0b1001, 0b1111, "QT.1001"⟩
  | .qt1010 => ⟨.qt, 4, 0b1010, 0b1111, "QT.1010"⟩
  | .qt1011 => ⟨.qt, 4, 0b1011, 0b1111, "QT.1011"⟩
  | .qt1100 => ⟨.qt, 4, 0b1100, 0b1111, "QT.1100"⟩
  | .qt1101 => ⟨.qt, 4, 0b1101, 0b1111, "QT.1101"⟩
  | .qt1110 => ⟨.qt, 4, 0b1110, 0b1111, "QT.1110"⟩
  | .qt1111 => ⟨.qt, 4, 0b1111, 0b1111, "QT.1111"⟩

/-- Whether a word matches a row: same format, and the masked bits are the pattern's. -/
def Row.matchesWord (r : Row) (x : CodeWord) : Bool :=
  r.format == x.format && (x.toNat &&& r.mask) == r.pattern

/-- The word that a table row's bits `w` are. Widths 6, 5 and 4 name the format. In whole bytes every row has
8 bits and the number alone does not name the format: a defined stimulus word is one; a word that R44 reserves
there is no stimulus word, so it is read at the first select point that defines it (`QT`, then `EDGE`, then `SEQT`),
and where none does it stays a stimulus word, to be refused (DESIGN CHOICE, log entry 7). -/
def tableWord (nbits w : Nat) : Option CodeWord :=
  if 2 ^ nbits ≤ w then none
  else match nbits with
    | 8 =>
      let e := CodeWord.edge (BitVec.ofNat 5 w)
      let t := CodeWord.seqt (BitVec.ofNat 6 w)
      if (decodeOp (BitVec.ofNat 8 w)).toOption.isSome then some (.op (BitVec.ofNat 8 w))
      else if w < 16 then some (.qt (BitVec.ofNat 4 w))
      else if w < 32 ∧ (decode e).toOption.isSome then some e
      else if w < 64 ∧ (decode t).toOption.isSome then some t
      else some (.op (BitVec.ofNat 8 w))
    | 6 => some (.seqt (BitVec.ofNat 6 w))
    | 5 => some (.edge (BitVec.ofNat 5 w))
    | 4 => some (.qt (BitVec.ofNat 4 w))
    | _ => none

/-- The instruction the decoder reads from a table word of `nbits` bits. -/
def decodeTableWord (nbits w : Nat) : Option Instr :=
  match tableWord nbits w with
  | some x => (decode x).toOption
  | none => none

end Sys2Proof
end

