-- ==== Sys2Proof/Machine/State.lean ====
section
/-! DEFINITION. The state of the block, 10_state.md: plain data, every register and queue of R10, the
model's own fields beside them, and the state after reset (70_reset_and_hazards.md R140). -/
namespace Sys2Proof.Machine

/-- The five sequencer states, the values of `SEQ` (R15, R45). Codes 5 to 7 cannot be formed (R100). -/
inductive SeqState where
  | idle
  | keyWait
  | keyed
  | unmuteWait
  | timedOut
  deriving DecidableEq, Repr

/-- The eight switch events, the items of `SWQ` (R46). Codes 0 and 9 to 15 are never pushed. -/
inductive SwEvent where
  | pttPressed
  | pttReleased
  | tunePressed
  | tuneReleased
  | knobReleased
  | knobReleasedLong
  | txTimedOutEntry
  | txTimedOutExit
  deriving DecidableEq, Repr

/-- The two direction pulses, the items of `ENCQ` (R47). Codes `0b00` and `0b10` are never pushed. -/
inductive Pulse where
  | plus
  | minus
  deriving DecidableEq, Repr

/-- The whole state. Fields from `ms` to `encErr` are the registers `S0` to `S17` of R10; `cfg`, `stim`,
`swRet` and `encRet` are the model's own (log entries 1 to 3). -/
structure State where
  /-- The open parameters of R5, fixed when the block is built (R27 (a)). Model's own. -/
  cfg : Params
  /-- S0 `MS`: the millisecond clock, a number below `2^W` (R11). -/
  ms : Time
  /-- S1 `TDIV`: the tick divider, four bits, 0 to 9 (R12). -/
  tdiv : BitVec 4
  /-- S2 `PTT_Q`: PTT as the previous tick sampled it, true = asserted (R13). -/
  pttQ : Bool
  /-- S3 `TUNE_Q` (R13). -/
  tuneQ : Bool
  /-- S4 `KNOB_Q` (R13). -/
  knobQ : Bool
  /-- S5 `KNOB_T0`: `now` of the tick that sampled the KNOB press edge (R14). -/
  knobT0 : Time
  /-- S6 `SEQ` (R15). -/
  seq : SeqState
  /-- S7 `DEADLINE`: the one deadline the sequencer has armed (R16). -/
  deadline : Time
  /-- S8 `MUTE`, true = asserted (R17). -/
  mute : Bool
  /-- S9 `PTT_OUT` (R17). -/
  pttOut : Bool
  /-- S10 `TUNE_OUT` (R17). -/
  tuneOut : Bool
  /-- S11 `SWQ`, head first (R18). -/
  swq : List SwEvent
  /-- S12 `SW_ERR`: events dropped, modulo `2^ERRW` (R19). -/
  swErr : Nat
  /-- S13 `QVALID`: whether `QPREV` holds a sample (R20). -/
  qvalid : Bool
  /-- S14 `QPREV`: the previous phase levels `A:B` (R21). -/
  qprev : BitVec 2
  /-- S15 `CNT`: the signed position counter (R22). -/
  cnt : Int
  /-- S16 `ENCQ`, head first (R23). -/
  encq : List Pulse
  /-- S17 `ENC_ERR`: pulses dropped, modulo `2^ERRW` (R24). -/
  encErr : Nat
  /-- The stimulus words still to come, first one first: which agent acts next and with which pin levels
  (R6, R27 (b), R41). Model's own. -/
  stim : List StimWord
  /-- What the last `POPSW` returned, `(valid, data)`; none before the first (R116). Model's own. -/
  swRet : Option (Bool × BitVec 4)
  /-- What the last `POPENC` returned, `(valid, data)`; none before the first (R117). Model's own. -/
  encRet : Option (Bool × BitVec 2)
  deriving DecidableEq, Repr

/-- The block has no fault: no operation raises an exception or fails to complete (R128), so the type has
no constructor. -/
inductive Fault where
  deriving DecidableEq, Repr

/-- Why a step has no next state. -/
inductive Refusal where
  /-- An instruction without a meaning yet, raised by `exec` only. Safe: the model stops. -/
  | notModelled (mnemonic : String)
  /-- A reserved stimulus word, raised by `step`: R44 says the machine must refuse it. Safe: such a word
  corresponds to no hardware event. -/
  | reservedStimulus (word : StimWord) (why : DecodeError)
  deriving DecidableEq, Repr

/-- What a meaning and a step answer. -/
abbrev Result := Host.Outcome State Fault Refusal

/-- `MS <- v`. -/
def State.setMs (s : State) (v : Time) : State := { s with ms := v }

/-- `TDIV <- v`. -/
def State.setTdiv (s : State) (v : BitVec 4) : State := { s with tdiv := v }

/-- `PTT_Q <- p ; TUNE_Q <- t ; KNOB_Q <- k`. -/
def State.setPrior (s : State) (p t k : Bool) : State := { s with pttQ := p, tuneQ := t, knobQ := k }

/-- `KNOB_T0 <- v`. -/
def State.setKnobT0 (s : State) (v : Time) : State := { s with knobT0 := v }

/-- `SEQ <- v`. -/
def State.setSeq (s : State) (v : SeqState) : State := { s with seq := v }

/-- `DEADLINE <- v`. -/
def State.setDeadline (s : State) (v : Time) : State := { s with deadline := v }

/-- `MUTE <- v`. -/
def State.setMute (s : State) (v : Bool) : State := { s with mute := v }

/-- `PTT_OUT <- v`. -/
def State.setPttOut (s : State) (v : Bool) : State := { s with pttOut := v }

/-- `TUNE_OUT <- v`. -/
def State.setTuneOut (s : State) (v : Bool) : State := { s with tuneOut := v }

/-- `SWQ` and `SW_ERR` together, as `Push` and `Pop` leave them. -/
def State.setSw (s : State) (q : List SwEvent) (err : Nat) : State := { s with swq := q, swErr := err }

/-- `QVALID <- v`. -/
def State.setQvalid (s : State) (v : Bool) : State := { s with qvalid := v }

/-- `QPREV <- v`. -/
def State.setQprev (s : State) (v : BitVec 2) : State := { s with qprev := v }

/-- `CNT <- v`. -/
def State.setCnt (s : State) (v : Int) : State := { s with cnt := v }

/-- `ENCQ` and `ENC_ERR` together, as `Push` and `Pop` leave them. -/
def State.setEnc (s : State) (q : List Pulse) (err : Nat) : State := { s with encq := q, encErr := err }

/-- The stimulus still to come. -/
def State.setStim (s : State) (ws : List StimWord) : State := { s with stim := ws }

/-- What `POPSW` returned. -/
def State.setSwRet (s : State) (r : Bool × BitVec 4) : State := { s with swRet := some r }

/-- What `POPENC` returned. -/
def State.setEncRet (s : State) (r : Bool × BitVec 2) : State := { s with encRet := some r }

/-- The state after reset of a block built with the parameters `c`: every register of R140 at the value it
gives, no stimulus pending, nothing popped yet. -/
def State.resetWith (c : Params) : State where
  cfg := c
  ms := 0
  tdiv := 0
  pttQ := false
  tuneQ := false
  knobQ := false
  knobT0 := 0
  seq := .idle
  deadline := 0
  mute := false
  pttOut := false
  tuneOut := false
  swq := []
  swErr := 0
  qvalid := false
  qprev := 0
  cnt := 0
  encq := []
  encErr := 0
  stim := []
  swRet := none
  encRet := none

/-- The machine right after reset (R140), built with the default parameters of R5. -/
def State.reset : State := State.resetWith Params.default

end Sys2Proof.Machine
end

