-- ==== Sys2Proof/Machine/Ops.lean ====
section
/-! DEFINITION. The named operations over the registers and the two queues: time arithmetic
(43_timebase.md), `Push` and `Pop` (20_memory.md), and the fetch of the next stimulus word. The block has
no exception entry and no return from one (60_exceptions.md R128), so there is no such operation here. -/
namespace Sys2Proof.Machine

/-- `tadd(a, k) = (a + k) mod 2^W` (R109). The interval stands on the left so that the kernel, given a sum of an
open time and a long interval, does not count the interval down. -/
def tadd (c : Params) (a k : Time) : Time := (k + a) % 2 ^ c.w

/-- `tdiff(a, b)`: the signed distance from time `b` to time `a`, `sext_W((a - b) mod 2^W)` (R108). -/
def tdiff (c : Params) (a b : Time) : Int :=
  let d : Int := ((a : Int) - (b : Int)) % ((2 ^ c.w : Nat) : Int)
  if d < ((2 ^ (c.w - 1) : Nat) : Int) then d else d - ((2 ^ c.w : Nat) : Int)

/-- `(ERR + 1) mod 2^ERRW` (R31). -/
def errInc (c : Params) (err : Nat) : Nat := (err + 1) % 2 ^ c.errw

/-- `Push(q, v)` on a queue of capacity `depth` with its error counter (R31): the queue and the counter
after it. -/
def push {α : Type} (c : Params) (depth : Nat) (q : List α) (err : Nat) (v : α) : List α × Nat :=
  if q.length < depth then (q ++ [v], err) else (q, errInc c err)

/-- `Pop(q)` (R32): whether there was an item, its code (0 when there was none), and the queue after it. -/
def pop {α : Type} {n : Nat} (code : α → BitVec n) (q : List α) : (Bool × BitVec n) × List α :=
  match q with
  | [] => ((false, 0), [])
  | v :: rest => ((true, code v), rest)

/-- `Push(SWQ, e)`. -/
def pushSw (e : SwEvent) (s : State) : State :=
  let r := push s.cfg s.cfg.swqDepth s.swq s.swErr e
  s.setSw r.1 r.2

/-- `Push(ENCQ, p)`. -/
def pushEnc (p : Pulse) (s : State) : State :=
  let r := push s.cfg s.cfg.encqDepth s.encq s.encErr p
  s.setEnc r.1 r.2

/-- The next stimulus word and the state with that word consumed; none in a cycle with no strobe. -/
def fetch (s : State) : Option (StimWord × State) :=
  match s.stim with
  | [] => none
  | w :: rest => some (w, s.setStim rest)

end Sys2Proof.Machine
end

