-- ==== Sys2Proof/Machine/Flags.lean ====
section
/-! DEFINITION. The conditions the block computes and does not store (10_state.md R29, 42_sequencer.md R86,
30_encoding.md R49), and the not-empty flags of the queues. Inside a tick `now` is the value `MS` has
after the increment (R107), so these read `s.ms` in the state the tick runs in. -/
namespace Sys2Proof.Machine

/-- `any = p or t` (R86). -/
def anyKey (p t : Bool) : Bool := p || t

/-- `tsel`: "TUNE is the asserted line" (R86, R91). -/
def tselKey (c : Params) (p t : Bool) : Bool := if c.tuneOutWhenBoth then t else t && !p

/-- `expired = (tdiff(now, DEADLINE) >= 0)` (R110). -/
def expired (s : State) : Bool := decide (0 ≤ tdiff s.cfg s.ms s.deadline)

/-- `lng = (tdiff(now, KNOB_T0) >= LONG_PRESS_MS)` (R49, R111). -/
def longPress (s : State) : Bool := decide ((longPressMs : Int) ≤ tdiff s.cfg s.ms s.knobT0)

/-- `swq_valid` (R29). -/
def swqValid (s : State) : Bool := decide (0 < s.swq.length)

/-- `encq_valid` (R29). -/
def encqValid (s : State) : Bool := decide (0 < s.encq.length)

end Sys2Proof.Machine
end

