-- ==== Sys2Proof/Machine/Operands.lean ====
section
/-! DEFINITION. Operand assembly: input polarity, the numeric codes of states, events and pulses, the
quadrature direction table, and the three select words an operation forms from state and operands
(00_scope.md R8, 30_encoding.md R43 to R50). -/
namespace Sys2Proof.Machine

/-- The logical level of an active-low pin: 1 = asserted (R8). -/
def asserted (pinN : Bool) : Bool := !pinN

/-- The code of a sequencer state, the value of port `seq_state` (R45). -/
def SeqState.code : SeqState → BitVec 3
  | .idle => 0
  | .keyWait => 1
  | .keyed => 2
  | .unmuteWait => 3
  | .timedOut => 4

/-- The code of a switch event (R46). -/
def SwEvent.code : SwEvent → BitVec 4
  | .pttPressed => 1
  | .pttReleased => 2
  | .tunePressed => 3
  | .tuneReleased => 4
  | .knobReleased => 5
  | .knobReleasedLong => 6
  | .txTimedOutEntry => 7
  | .txTimedOutExit => 8

/-- The code of a pulse (R47). -/
def Pulse.code : Pulse → BitVec 2
  | .plus => 0b01
  | .minus => 0b11

/-- The direction a pulse stands for, `sext_2` of its code (R47). -/
def Pulse.dir (p : Pulse) : Int := p.code.toInt

/-- The two-bit sample `cur = a:b`, A in bit 1 (R43). -/
def sample (encA encB : Bool) : BitVec 2 := BitVec.ofBool encA ++ BitVec.ofBool encB

/-- `QTABLE`, the list of R50 indexed by `Q`. -/
def quadTable : List Int := [0, -1, 1, 0, 1, 0, 0, -1, -1, 0, 0, 1, 0, 1, -1, 0]

/-- The count `d` a quadrature select word adds (R50). -/
def quadCount (q : QtWord) : Int := quadTable.getD q.toNat 0

/-- The word `Q = QPREV[1:0] : cur[1:0]` (R50). -/
def qtWord (prev cur : BitVec 2) : QtWord := prev ++ cur

/-- The word `T = SEQ[2:0] : any : tsel : expired` that step 5 of a tick forms from the levels `p` and `t` (R48). -/
def seqtWord (p t : Bool) (s : State) : SeqtWord :=
  s.seq.code ++ BitVec.ofBool (anyKey p t) ++ BitVec.ofBool (tselKey s.cfg p t) ++ BitVec.ofBool (expired s)

/-- The switch lines in the order of their `line` codes (R49). -/
inductive Line where
  | ptt
  | tune
  | knob
  deriving DecidableEq, Repr

/-- The code of a line (R49). -/
def Line.code : Line → BitVec 2
  | .ptt => 0b00
  | .tune => 0b01
  | .knob => 0b10

/-- A line's prior sample (R13). -/
def Line.prior (s : State) : Line → Bool
  | .ptt => s.pttQ
  | .tune => s.tuneQ
  | .knob => s.knobQ

/-- The word `E = line[1:0] : prev : cur : lng` that the sampler forms for a line sampled as `cur` (R49). -/
def edgeWord (l : Line) (cur : Bool) (s : State) : EdgeWord :=
  l.code ++ BitVec.ofBool (l.prior s) ++ BitVec.ofBool cur ++ BitVec.ofBool (longPress s)

end Sys2Proof.Machine
end

