-- ==== Sys2Proof/Machine/Encoder.lean ====
section
/-! DEFINITION. The quadrature decoder (40_encoder.md): the operation `QSAMPLE` and the meanings of the sixteen
`QT` rows. -/
namespace Sys2Proof.Machine

/-- The sample becomes the previous one and the count `d` is added: at the threshold the counter wraps to 0
and `+1` is pushed (R61), below 0 it wraps to `DETENT_THRESH - 1` and `-1` is pushed (R62), else it is kept
(R64). `CNT` and `QPREV` have their new values whether or not the push succeeds (R63). -/
def quadAccumulate (d : Int) (cur : BitVec 2) (s : State) : State :=
  let c := s.cnt + d
  if (s.cfg.detentThresh : Int) ≤ c then pushEnc .plus ((s.setQprev cur).setCnt 0)
  else if c < 0 then pushEnc .minus ((s.setQprev cur).setCnt ((s.cfg.detentThresh : Int) - 1))
  else (s.setQprev cur).setCnt c

/-- `QSAMPLE(a, b)` (R55): the first sample after reset only loads `QPREV` (R56). -/
def qsample (encA encB : Bool) (s : State) : State :=
  let cur := sample encA encB
  if s.qvalid then quadAccumulate (quadCount (qtWord s.qprev cur)) cur s
  else (s.setQprev cur).setQvalid true

/-- `QSAMPLE` (R55). -/
def execQsample (encA encB : Bool) (s : State) : Result := .next (qsample encA encB s)

/-- `QT.0000`: 00 to 00, repeat, `d` = 0 (R59). -/
def execQt0000 (s : State) : Result := .next (quadAccumulate 0 0b00 s)

/-- `QT.0001`: 00 to 01, valid, backward, `d` = -1 (R58). -/
def execQt0001 (s : State) : Result := .next (quadAccumulate (-1) 0b01 s)

/-- `QT.0010`: 00 to 10, valid, forward, `d` = 1 (R57). -/
def execQt0010 (s : State) : Result := .next (quadAccumulate 1 0b10 s)

/-- `QT.0011`: 00 to 11, invalid (both changed), `d` = 0 (R60). -/
def execQt0011 (s : State) : Result := .next (quadAccumulate 0 0b11 s)

/-- `QT.0100`: 01 to 00, valid, forward, `d` = 1 (R57). -/
def execQt0100 (s : State) : Result := .next (quadAccumulate 1 0b00 s)

/-- `QT.0101`: 01 to 01, repeat, `d` = 0 (R59). -/
def execQt0101 (s : State) : Result := .next (quadAccumulate 0 0b01 s)

/-- `QT.0110`: 01 to 10, invalid (both changed), `d` = 0 (R60). -/
def execQt0110 (s : State) : Result := .next (quadAccumulate 0 0b10 s)

/-- `QT.0111`: 01 to 11, valid, backward, `d` = -1 (R58). -/
def execQt0111 (s : State) : Result := .next (quadAccumulate (-1) 0b11 s)

/-- `QT.1000`: 10 to 00, valid, backward, `d` = -1 (R58). -/
def execQt1000 (s : State) : Result := .next (quadAccumulate (-1) 0b00 s)

/-- `QT.1001`: 10 to 01, invalid (both changed), `d` = 0 (R60). -/
def execQt1001 (s : State) : Result := .next (quadAccumulate 0 0b01 s)

/-- `QT.1010`: 10 to 10, repeat, `d` = 0 (R59). -/
def execQt1010 (s : State) : Result := .next (quadAccumulate 0 0b10 s)

/-- `QT.1011`: 10 to 11, valid, forward, `d` = 1 (R57). -/
def execQt1011 (s : State) : Result := .next (quadAccumulate 1 0b11 s)

/-- `QT.1100`: 11 to 00, invalid (both changed), `d` = 0 (R60). -/
def execQt1100 (s : State) : Result := .next (quadAccumulate 0 0b00 s)

/-- `QT.1101`: 11 to 01, valid, forward, `d` = 1 (R57). -/
def execQt1101 (s : State) : Result := .next (quadAccumulate 1 0b01 s)

/-- `QT.1110`: 11 to 10, valid, backward, `d` = -1 (R58). -/
def execQt1110 (s : State) : Result := .next (quadAccumulate (-1) 0b10 s)

/-- `QT.1111`: 11 to 11, repeat, `d` = 0 (R59). -/
def execQt1111 (s : State) : Result := .next (quadAccumulate 0 0b11 s)

end Sys2Proof.Machine
end

