-- ==== Sys2Proof/Machine/HostOps.lean ====
section
/-! DEFINITION. The host's operations (44_host_ops.md): `NOP`, `POPSW`, `POPENC`, `RESET`. -/
namespace Sys2Proof.Machine

/-- `POPSW`: the head of `SWQ` is removed and returned (R116); the pair returned is kept in `swRet`. -/
def popsw (s : State) : State :=
  let r := pop SwEvent.code s.swq
  (s.setSw r.2 s.swErr).setSwRet r.1

/-- `POPENC`: the head of `ENCQ` is removed and returned (R117); the pair returned is kept in `encRet`. -/
def popenc (s : State) : State :=
  let r := pop Pulse.code s.encq
  (s.setEnc r.2 s.encErr).setEncRet r.1

/-- `RESET`: every register takes its reset value, whatever the state (R118). The parameters, the stimulus
still to come and what earlier pops returned to the host are no registers of the block and stay. -/
def resetBlock (s : State) : State :=
  { State.resetWith s.cfg with stim := s.stim, swRet := s.swRet, encRet := s.encRet }

/-- `NOP`: nothing; time does not advance (R115). -/
def execNop (s : State) : Result := .next s

/-- `POPSW` (R116). -/
def execPopsw (s : State) : Result := .next (popsw s)

/-- `POPENC` (R117). -/
def execPopenc (s : State) : Result := .next (popenc s)

/-- `RESET` (R118). -/
def execReset (s : State) : Result := .next (resetBlock s)

end Sys2Proof.Machine
end

