-- ==== Sys2Proof/Machine/Sampler.lean ====
section
/-! DEFINITION. The switch sampler, steps 1 to 4 of a tick (41_switch_sampler.md): what a tick does for each
line, in the order of R70 and R81, and the meanings of the thirteen `EDGE` rows. `now` is `s.ms`. -/
namespace Sys2Proof.Machine

/-- `KNOB_T0 <- now` (R77). -/
def knobPress (s : State) : State := s.setKnobT0 s.ms

/-- TUNE, sampled as `t`: a press or release edge against `TUNE_Q` pushes its event (R72, R75, R76, R80). -/
def sampleTune (t : Bool) (s : State) : State :=
  match s.tuneQ, t with
  | false, true => pushSw .tunePressed s
  | true, false => pushSw .tuneReleased s
  | _, _ => s

/-- PTT, sampled as `p`: a press or release edge against `PTT_Q` pushes its event (R72 to R74, R80). -/
def samplePtt (p : Bool) (s : State) : State :=
  match s.pttQ, p with
  | false, true => pushSw .pttPressed s
  | true, false => pushSw .pttReleased s
  | _, _ => s

/-- KNOB, sampled as `k`: a press edge is time-stamped, a release edge pushes the short or the long event
(R77 to R80). -/
def sampleKnob (k : Bool) (s : State) : State :=
  match s.knobQ, k with
  | false, true => knobPress s
  | true, false => if longPress s then pushSw .knobReleasedLong s else pushSw .knobReleased s
  | _, _ => s

/-- Steps 1 to 4 of a tick on the logical samples: TUNE, PTT, KNOB in that order (R81), then the prior
samples are replaced, edge or not (R82). -/
def samplerStep (p t k : Bool) (s : State) : State :=
  (sampleKnob k (samplePtt p (sampleTune t s))).setPrior p t k

/-- `EDGE.PTT.IDLE`: no effect (R80). -/
def execEdgePttIdle (s : State) : Result := .next s

/-- `EDGE.PTT.PRESS` (R73). -/
def execEdgePttPress (s : State) : Result := .next (pushSw .pttPressed s)

/-- `EDGE.PTT.RELEASE` (R74). -/
def execEdgePttRelease (s : State) : Result := .next (pushSw .pttReleased s)

/-- `EDGE.PTT.HELD`: no effect (R80). -/
def execEdgePttHeld (s : State) : Result := .next s

/-- `EDGE.TUNE.IDLE`: no effect (R80). -/
def execEdgeTuneIdle (s : State) : Result := .next s

/-- `EDGE.TUNE.PRESS` (R75). -/
def execEdgeTunePress (s : State) : Result := .next (pushSw .tunePressed s)

/-- `EDGE.TUNE.RELEASE` (R76). -/
def execEdgeTuneRelease (s : State) : Result := .next (pushSw .tuneReleased s)

/-- `EDGE.TUNE.HELD`: no effect (R80). -/
def execEdgeTuneHeld (s : State) : Result := .next s

/-- `EDGE.KNOB.IDLE`: no effect (R80). -/
def execEdgeKnobIdle (s : State) : Result := .next s

/-- `EDGE.KNOB.PRESS`: a time-stamp and no event (R77). -/
def execEdgeKnobPress (s : State) : Result := .next (knobPress s)

/-- `EDGE.KNOB.RELEASE.SHORT`: `KNOB_T0` is left as it is (R78). -/
def execEdgeKnobReleaseShort (s : State) : Result := .next (pushSw .knobReleased s)

/-- `EDGE.KNOB.RELEASE.LONG` (R79). -/
def execEdgeKnobReleaseLong (s : State) : Result := .next (pushSw .knobReleasedLong s)

/-- `EDGE.KNOB.HELD`: no effect (R80). -/
def execEdgeKnobHeld (s : State) : Result := .next s

end Sys2Proof.Machine
end

