-- ==== Sys2Proof/Machine/Sequencer.lean ====
section
/-! DEFINITION. The mute/key/timeout sequencer, step 5 of a tick (42_sequencer.md): the effect of each of
the thirteen `SEQT` rows, the step that chooses among them, and the rows' meanings as instructions. `now` is
`s.ms`, the clock after the increment (R107). -/
namespace Sys2Proof.Machine

/-- `SEQ.IDLE.KEY`: mute at once, arm the key delay, enter KEY_WAIT (R88). -/
def seqIdleKey (s : State) : State :=
  ((s.setMute true).setDeadline (tadd s.cfg s.ms keyDelayMs)).setSeq .keyWait

/-- `SEQ.KEYWAIT.ABORT`: unmute, back to IDLE; the deadline stays armed and stale (R89). -/
def seqKeywaitAbort (s : State) : State := (s.setMute false).setSeq .idle

/-- What entering KEYED does with a given tune-out level (R90, R91). -/
def seqEnterKeyed (tuneOut : Bool) (s : State) : State :=
  (((s.setPttOut true).setTuneOut tuneOut).setDeadline (tadd s.cfg s.ms txTimeoutMs)).setSeq .keyed

/-- `SEQ.KEYWAIT.KEYPTT`: key the transmitter, tune-out de-asserted (R90). -/
def seqKeywaitKeyptt (s : State) : State := seqEnterKeyed false s

/-- `SEQ.KEYWAIT.KEYTUNE`: key the transmitter, tune-out asserted (R91). -/
def seqKeywaitKeytune (s : State) : State := seqEnterKeyed true s

/-- `SEQ.KEYED.UNKEY`: unkey, arm the unmute delay, enter UNMUTE_WAIT; mute stays (R93). -/
def seqKeyedUnkey (s : State) : State :=
  (((s.setPttOut false).setTuneOut false).setDeadline (tadd s.cfg s.ms unmuteDelayMs)).setSeq .unmuteWait

/-- `SEQ.KEYED.TIMEOUT`: all three outputs fall, `TX_TIMED_OUT_ENTRY` is pushed, enter TIMED_OUT; the
transition is taken whether or not the push succeeds (R94). -/
def seqKeyedTimeout (s : State) : State :=
  (pushSw .txTimedOutEntry (((s.setPttOut false).setTuneOut false).setMute false)).setSeq .timedOut

/-- `SEQ.UNMUTE.DONE`: unmute, back to IDLE (R96). -/
def seqUnmuteDone (s : State) : State := (s.setMute false).setSeq .idle

/-- `SEQ.TIMEDOUT.EXIT`: push `TX_TIMED_OUT_EXIT`, back to IDLE (R98). -/
def seqTimedoutExit (s : State) : State := (pushSw .txTimedOutExit s).setSeq .idle

/-- `SeqStep(now, p, t)` (R85): one clause, that of the state `SEQ` has, and at most one transition. The
release is tested before the deadline (R89, R93). -/
def seqStep (p t : Bool) (s : State) : State :=
  match s.seq with
  | .idle => if anyKey p t then seqIdleKey s else s
  | .keyWait =>
    if !anyKey p t then seqKeywaitAbort s
    else if expired s then
      if tselKey s.cfg p t then seqKeywaitKeytune s else seqKeywaitKeyptt s
    else s
  | .keyed =>
    if !anyKey p t then seqKeyedUnkey s
    else if expired s then seqKeyedTimeout s
    else s
  | .unmuteWait => if expired s then seqUnmuteDone s else s
  | .timedOut => if !anyKey p t then seqTimedoutExit s else s

/-- `SEQ.IDLE.HOLD`: nothing is written (R87). -/
def execSeqIdleHold (s : State) : Result := .next s

/-- `SEQ.IDLE.KEY` (R88). -/
def execSeqIdleKey (s : State) : Result := .next (seqIdleKey s)

/-- `SEQ.KEYWAIT.ABORT` (R89). -/
def execSeqKeywaitAbort (s : State) : Result := .next (seqKeywaitAbort s)

/-- `SEQ.KEYWAIT.HOLD`: nothing is written (R92). -/
def execSeqKeywaitHold (s : State) : Result := .next s

/-- `SEQ.KEYWAIT.KEYPTT` (R90). -/
def execSeqKeywaitKeyptt (s : State) : Result := .next (seqKeywaitKeyptt s)

/-- `SEQ.KEYWAIT.KEYTUNE` (R91). -/
def execSeqKeywaitKeytune (s : State) : Result := .next (seqKeywaitKeytune s)

/-- `SEQ.KEYED.UNKEY` (R93). -/
def execSeqKeyedUnkey (s : State) : Result := .next (seqKeyedUnkey s)

/-- `SEQ.KEYED.HOLD`: nothing is written, tune-out and the deadline among it (R95). -/
def execSeqKeyedHold (s : State) : Result := .next s

/-- `SEQ.KEYED.TIMEOUT` (R94). -/
def execSeqKeyedTimeout (s : State) : Result := .next (seqKeyedTimeout s)

/-- `SEQ.UNMUTE.HOLD`: nothing is written, whatever the keys do (R97). -/
def execSeqUnmuteHold (s : State) : Result := .next s

/-- `SEQ.UNMUTE.DONE` (R96). -/
def execSeqUnmuteDone (s : State) : Result := .next (seqUnmuteDone s)

/-- `SEQ.TIMEDOUT.EXIT` (R98). -/
def execSeqTimedoutExit (s : State) : Result := .next (seqTimedoutExit s)

/-- `SEQ.TIMEDOUT.HOLD`: nothing is written (R99). -/
def execSeqTimedoutHold (s : State) : Result := .next s

end Sys2Proof.Machine
end

