-- ==== Sys2Proof/Machine/Timebase.lean ====
section
/-! DEFINITION. The timebase (43_timebase.md): the tick and the operation `MSINC`. -/
namespace Sys2Proof.Machine

/-- `TICK(now, ptt_n, tune_n, knob_n)` with `now = s.ms` (R70): sample in logical form (R71), steps 2 to 4,
then the sequencer on the levels just sampled. Written in terms of `now` alone, so it does not depend on
when a tick is due (R106). -/
def tick (pttN tuneN knobN : Bool) (s : State) : State :=
  let p := asserted pttN
  let t := asserted tuneN
  let k := asserted knobN
  seqStep p t (samplerStep p t k s)

/-- `now <- (MS + 1) mod 2^W ; MS <- now` (R105). -/
def advanceMs (s : State) : State := s.setMs (tadd s.cfg s.ms 1)

/-- Whether the divider fires: `TDIV` = 9, one less than `TICK_MS` (R105, R106). -/
def tickDue (s : State) : Bool := s.tdiv == BitVec.ofNat 4 (tickMs - 1)

/-- `MSINC(ptt_n, tune_n, knob_n)` (R105). The pins are looked at only if this `MSINC` contains a tick (R43). -/
def msinc (pttN tuneN knobN : Bool) (s : State) : State :=
  if tickDue s then tick pttN tuneN knobN ((advanceMs s).setTdiv 0)
  else (advanceMs s).setTdiv (s.tdiv + 1)

/-- `MSINC` (R105). -/
def execMsinc (pttN tuneN knobN : Bool) (s : State) : Result := .next (msinc pttN tuneN knobN s)

end Sys2Proof.Machine
end

