-- ==== Sys2Proof/Machine/Dispatch.lean ====
section
/-! DEFINITION. Which meaning each instruction has. -/
namespace Sys2Proof.Machine

def exec (i : Instr) (s : State) : Host.Outcome State Fault Refusal :=
  match i with
  | .nop => Sys2Proof.Machine.execNop s
  | .msinc pttN tuneN knobN => Sys2Proof.Machine.execMsinc pttN tuneN knobN s
  | .qsample encA encB => Sys2Proof.Machine.execQsample encA encB s
  | .popsw => Sys2Proof.Machine.execPopsw s
  | .popenc => Sys2Proof.Machine.execPopenc s
  | .reset => Sys2Proof.Machine.execReset s
  | .seqIdleHold _ _ => Sys2Proof.Machine.execSeqIdleHold s
  | .seqIdleKey _ _ => Sys2Proof.Machine.execSeqIdleKey s
  | .seqKeywaitAbort _ _ => Sys2Proof.Machine.execSeqKeywaitAbort s
  | .seqKeywaitHold _ => Sys2Proof.Machine.execSeqKeywaitHold s
  | .seqKeywaitKeyptt => Sys2Proof.Machine.execSeqKeywaitKeyptt s
  | .seqKeywaitKeytune => Sys2Proof.Machine.execSeqKeywaitKeytune s
  | .seqKeyedUnkey _ _ => Sys2Proof.Machine.execSeqKeyedUnkey s
  | .seqKeyedHold _ => Sys2Proof.Machine.execSeqKeyedHold s
  | .seqKeyedTimeout _ => Sys2Proof.Machine.execSeqKeyedTimeout s
  | .seqUnmuteHold _ _ => Sys2Proof.Machine.execSeqUnmuteHold s
  | .seqUnmuteDone _ _ => Sys2Proof.Machine.execSeqUnmuteDone s
  | .seqTimedoutExit _ _ => Sys2Proof.Machine.execSeqTimedoutExit s
  | .seqTimedoutHold _ _ => Sys2Proof.Machine.execSeqTimedoutHold s
  | .edgePttIdle _ => Sys2Proof.Machine.execEdgePttIdle s
  | .edgePttPress _ => Sys2Proof.Machine.execEdgePttPress s
  | .edgePttRelease _ => Sys2Proof.Machine.execEdgePttRelease s
  | .edgePttHeld _ => Sys2Proof.Machine.execEdgePttHeld s
  | .edgeTuneIdle _ => Sys2Proof.Machine.execEdgeTuneIdle s
  | .edgeTunePress _ => Sys2Proof.Machine.execEdgeTunePress s
  | .edgeTuneRelease _ => Sys2Proof.Machine.execEdgeTuneRelease s
  | .edgeTuneHeld _ => Sys2Proof.Machine.execEdgeTuneHeld s
  | .edgeKnobIdle _ => Sys2Proof.Machine.execEdgeKnobIdle s
  | .edgeKnobPress _ => Sys2Proof.Machine.execEdgeKnobPress s
  | .edgeKnobReleaseShort => Sys2Proof.Machine.execEdgeKnobReleaseShort s
  | .edgeKnobReleaseLong => Sys2Proof.Machine.execEdgeKnobReleaseLong s
  | .edgeKnobHeld _ => Sys2Proof.Machine.execEdgeKnobHeld s
  | .qt0000 => Sys2Proof.Machine.execQt0000 s
  | .qt0001 => Sys2Proof.Machine.execQt0001 s
  | .qt0010 => Sys2Proof.Machine.execQt0010 s
  | .qt0011 => Sys2Proof.Machine.execQt0011 s
  | .qt0100 => Sys2Proof.Machine.execQt0100 s
  | .qt0101 => Sys2Proof.Machine.execQt0101 s
  | .qt0110 => Sys2Proof.Machine.execQt0110 s
  | .qt0111 => Sys2Proof.Machine.execQt0111 s
  | .qt1000 => Sys2Proof.Machine.execQt1000 s
  | .qt1001 => Sys2Proof.Machine.execQt1001 s
  | .qt1010 => Sys2Proof.Machine.execQt1010 s
  | .qt1011 => Sys2Proof.Machine.execQt1011 s
  | .qt1100 => Sys2Proof.Machine.execQt1100 s
  | .qt1101 => Sys2Proof.Machine.execQt1101 s
  | .qt1110 => Sys2Proof.Machine.execQt1110 s
  | .qt1111 => Sys2Proof.Machine.execQt1111 s

end Sys2Proof.Machine
end

