-- ==== Sys2Proof/Machine/Script.lean ====
section
/-! DEFINITION. The script spelling of stimulus words and the pseudo-operations (30_encoding.md R52, R53). -/
namespace Sys2Proof.Machine

/-- `NOP` (R52). -/
def wordNop : StimWord := 0x00

/-- `MSINC p t k` with raw pin levels: `0x20 + 4*p + 2*t + k` (R52). -/
def wordMsinc (pttN tuneN knobN : Bool) : StimWord :=
  0x20 + 4 * BitVec.ofNat 8 pttN.toNat + 2 * BitVec.ofNat 8 tuneN.toNat + BitVec.ofNat 8 knobN.toNat

/-- `Q a b`: `0x40 + 2*a + b` (R52). -/
def wordQ (encA encB : Bool) : StimWord := 0x40 + 2 * BitVec.ofNat 8 encA.toNat + BitVec.ofNat 8 encB.toNat

/-- `POPSW` (R52). -/
def wordPopsw : StimWord := 0x60

/-- `POPENC` (R52). -/
def wordPopenc : StimWord := 0x80

/-- `RESET` (R52). -/
def wordReset : StimWord := 0xE0

/-- `WAIT n p t k`: `n` times `MSINC p t k` (R53). -/
def wait (n : Nat) (pttN tuneN knobN : Bool) : List StimWord := List.replicate n (wordMsinc pttN tuneN knobN)

/-- `TICKS n p t k`: `WAIT 10*n p t k` (R53). -/
def ticks (n : Nat) (pttN tuneN knobN : Bool) : List StimWord := wait (tickMs * n) pttN tuneN knobN

/-- `DRAINSW` from a state, no tick intervening: `len(SWQ) + 1` pops (R53). -/
def drainSw (s : State) : List StimWord := List.replicate (s.swq.length + 1) wordPopsw

/-- `DRAINENC` from a state, no sample intervening: `len(ENCQ) + 1` pops (R53). -/
def drainEnc (s : State) : List StimWord := List.replicate (s.encq.length + 1) wordPopenc

end Sys2Proof.Machine
end

