-- ==== Sys2Proof/Machine/Place.lean ====
section
/-! DEFINITION. How a select word comes to be formed: the registers and the stimulus word under which the
very next operation forms exactly that word, set up as the vectors of 95_test_vectors.md sections 2.2, 2.3 and 2.5
do. A word that cannot be formed (a reserved code) leaves the state as it is. -/
namespace Sys2Proof.Machine

/-- `now` of the next `MSINC`. -/
def nextNow (s : State) : Time := tadd s.cfg s.ms 1

/-- The state a select field's code stands for (R45); none for the reserved codes (R100). -/
def seqOfCode (n : Nat) : Option SeqState :=
  match n with
  | 0 => some .idle
  | 1 => some .keyWait
  | 2 => some .keyed
  | 3 => some .unmuteWait
  | 4 => some .timedOut
  | _ => none

/-- A tick is due, with `SEQ`, `DEADLINE` and the pins such that step 5 forms the word; the prior samples equal
the pins, so that the sampler does nothing. -/
def placeSeqt (T : SeqtWord) (s : State) : State :=
  match seqOfCode (T.extractLsb' 3 3).toNat with
  | none => s
  | some q =>
    let p := T.getLsbD 2 && !T.getLsbD 1
    let t := T.getLsbD 2 && T.getLsbD 1
    let dl := if T.getLsbD 0 then nextNow s else tadd s.cfg (nextNow s) tickMs
    ((((s.setSeq q).setDeadline dl).setTdiv 9).setPrior p t false).setStim (wordMsinc (!p) (!t) true :: s.stim)

/-- A tick is due, with one line's prior sample and pin and `KNOB_T0` such that the sampler forms the word for
that line; the other two lines are released and stay so. -/
def placeEdge (E : EdgeWord) (s : State) : State :=
  let prev := E.getLsbD 2
  let cur := E.getLsbD 1
  let t0 := if E.getLsbD 0 then tadd s.cfg (nextNow s) (2 ^ s.cfg.w - longPressMs) else nextNow s
  let s1 := (s.setTdiv 9).setKnobT0 t0
  match (E.extractLsb' 3 2).toNat with
  | 0 => (s1.setPrior prev false false).setStim (wordMsinc (!cur) true true :: s.stim)
  | 1 => (s1.setPrior false prev false).setStim (wordMsinc true (!cur) true :: s.stim)
  | 2 => (s1.setPrior false false prev).setStim (wordMsinc true true (!cur) :: s.stim)
  | _ => s

/-- A `QSAMPLE` is next, with `QVALID` set and the previous sample in `QPREV`. -/
def placeQt (Q : QtWord) (s : State) : State :=
  ((s.setQvalid true).setQprev (Q.extractLsb' 2 2)).setStim (wordQ (Q.getLsbD 1) (Q.getLsbD 0) :: s.stim)

/-- Places a word where the next step uses it: a stimulus word is the next word of the stimulus, a select word
is the one the next operation forms. -/
def placeWord (x : CodeWord) (s : State) : State :=
  match x with
  | .op w => s.setStim (w :: s.stim)
  | .seqt T => placeSeqt T s
  | .edge E => placeEdge E s
  | .qt Q => placeQt Q s

end Sys2Proof.Machine
end

