-- ==== Sys2Proof/Machine/Step.lean ====
section
/-! DEFINITION. One step of the machine: the next stimulus word is decoded and run. -/
namespace Sys2Proof.Machine

/-- One step. With no stimulus word to come the cycle has no strobe and performs `NOP` (R7); a reserved word
is refused (R44); otherwise the operation runs on the state with the word consumed. -/
def step (s : State) : Host.Outcome State Fault Refusal :=
  match fetch s with
  | none => exec .nop s
  | some (w, s1) =>
    match decodeOp w with
    | .ok i => exec i s1
    | .error why => .refused (.reservedStimulus w why)

/-- `s` with a table word placed so that the very next step runs its row (log entry 7). -/
def State.withFetchWord (s : State) (nbits w : Nat) : State :=
  match tableWord nbits w with
  | some x => placeWord x s
  | none => s

end Sys2Proof.Machine
end

