-- ==== Sys2Proof/Machine/Ports.lean ====
section
/-! DEFINITION. The ports of 00_scope.md R7: what the host sees without side effect, and which sequences of
stimulus words a clock cycle stands for. -/
namespace Sys2Proof.Machine

/-- The output and status ports (R7, R26). -/
structure OutPorts where
  mute : Bool
  pttOut : Bool
  tuneOut : Bool
  swqValid : Bool
  swqData : BitVec 4
  encqValid : Bool
  encqData : BitVec 2
  swErr : Nat
  encErr : Nat
  seqState : BitVec 3
  deriving DecidableEq, Repr

/-- A status read: the values as the last completed operation left them (R119). A head port shows 0 when
its queue is empty. -/
def State.ports (s : State) : OutPorts where
  mute := s.mute
  pttOut := s.pttOut
  tuneOut := s.tuneOut
  swqValid := swqValid s
  swqData := (s.swq.head?.map SwEvent.code).getD 0
  encqValid := encqValid s
  encqData := (s.encq.head?.map Pulse.code).getD 0
  swErr := s.swErr
  encErr := s.encErr
  seqState := s.seq.code

/-- The input ports in one clock cycle, the pins already synchronised (R7, R158). The quadrature sampler has no
strobe: it acts in every cycle (R65). -/
structure InPorts where
  rst : Bool
  msEn : Bool
  pttN : Bool
  tuneN : Bool
  knobN : Bool
  encA : Bool
  encB : Bool
  swqPop : Bool
  encqPop : Bool
  deriving DecidableEq, Repr

/-- The operations the strobes of a cycle without reset request, in one order (R7). -/
def InPorts.strobes (c : InPorts) : List StimWord :=
  (if c.msEn then [wordMsinc c.pttN c.tuneN c.knobN] else [])
    ++ (if c.swqPop then [wordPopsw] else [])
    ++ (if c.encqPop then [wordPopenc] else [])

/-- The word of the one sample the hardware takes in every cycle (R65). -/
def InPorts.sampleWord (c : InPorts) : StimWord := wordQ c.encA c.encB

/-- The cycle's sample is a repeat: no phase line differs from `QPREV` (R59). The first sample after reset is
none, since it loads `QPREV` (R56). -/
def InPorts.repeats (c : InPorts) (s : State) : Bool := s.qvalid && s.qprev == sample c.encA c.encB

/-- Whether a sequence of stimulus words is an admitted serial form of a cycle that begins in `s`: `RESET` alone
when `rst` is 1 (R131 (a)); else the requested operations and the cycle's sample in any order (R35, R65,
R131 (b)). Only a sample that repeats may be left out (R65), and then a cycle with no strobe is `NOP` (R115). -/
def InPorts.admits (c : InPorts) (s : State) (ws : List StimWord) : Bool :=
  if c.rst then ws == [wordReset]
  else ws.isPerm (c.sampleWord :: c.strobes)
    || (c.repeats s && (if c.strobes.isEmpty then ws == [wordNop] else ws.isPerm c.strobes))

end Sys2Proof.Machine
end

