-- ==== Sys2Proof/Safety.lean ====
section
/-! DEFINITION. What counts as a safe state and what claims speak of: the invariants of 10_state.md R28, the
groups of registers a frame keeps, runs on a given stimulus, and the document's own words for transitions
and rotation, written apart from the machine. -/
namespace Sys2Proof.Machine

/-- The invariants of R28, with the ranges that the register widths of R10 give. I-SEQ and the item half of
I-Q hold by the types. -/
structure Inv (s : State) : Prop where
  params : s.cfg.Ok
  msRange : s.ms < 2 ^ s.cfg.w
  knobT0Range : s.knobT0 < 2 ^ s.cfg.w
  deadlineRange : s.deadline < 2 ^ s.cfg.w
  /-- I-TDIV -/
  tdivRange : s.tdiv.toNat ≤ 9
  /-- I-MUTE -/
  muteIff : s.mute = true ↔ s.seq = .keyWait ∨ s.seq = .keyed ∨ s.seq = .unmuteWait
  /-- I-PTT -/
  pttIff : s.pttOut = true ↔ s.seq = .keyed
  /-- I-TUNE -/
  tuneOnly : s.tuneOut = true → s.seq = .keyed
  /-- I-KEYSAFE -/
  keySafe : s.pttOut = true → s.mute = true
  /-- I-CNT -/
  cntRange : 0 ≤ s.cnt ∧ s.cnt ≤ (s.cfg.detentThresh : Int) - 1
  /-- I-Q -/
  swqBound : s.swq.length ≤ s.cfg.swqDepth
  /-- I-Q -/
  encqBound : s.encq.length ≤ s.cfg.encqDepth
  swErrRange : s.swErr < 2 ^ s.cfg.errw
  encErrRange : s.encErr < 2 ^ s.cfg.errw

/-- The clock and the divider are the same. -/
abbrev SameTime (s t : State) : Prop := t.ms = s.ms ∧ t.tdiv = s.tdiv

/-- The sampler's registers are the same. -/
abbrev SameSampler (s t : State) : Prop :=
  t.pttQ = s.pttQ ∧ t.tuneQ = s.tuneQ ∧ t.knobQ = s.knobQ ∧ t.knobT0 = s.knobT0

/-- The three outputs are the same. -/
abbrev SameOutputs (s t : State) : Prop := t.mute = s.mute ∧ t.pttOut = s.pttOut ∧ t.tuneOut = s.tuneOut

/-- The sequencer's registers, its outputs among them, are the same. -/
abbrev SameSequencer (s t : State) : Prop := t.seq = s.seq ∧ t.deadline = s.deadline ∧ SameOutputs s t

/-- The switch event queue and its error counter are the same. -/
abbrev SameSw (s t : State) : Prop := t.swq = s.swq ∧ t.swErr = s.swErr

/-- The decoder's registers are the same. -/
abbrev SameQuad (s t : State) : Prop := t.qvalid = s.qvalid ∧ t.qprev = s.qprev ∧ t.cnt = s.cnt

/-- The encoder pulse queue and its error counter are the same. -/
abbrev SameEnc (s t : State) : Prop := t.encq = s.encq ∧ t.encErr = s.encErr

/-- What pops have returned to the host is the same. -/
abbrev SameReturns (s t : State) : Prop := t.swRet = s.swRet ∧ t.encRet = s.encRet

/-- The parameters and the stimulus still to come are the same. -/
abbrev SameInputs (s t : State) : Prop := t.cfg = s.cfg ∧ t.stim = s.stim

/-- What `Push(SWQ, e)` makes of the queue and its counter (R31). -/
abbrev PushedSw (e : SwEvent) (s t : State) : Prop :=
  (s.swq.length < s.cfg.swqDepth → t.swq = s.swq ++ [e] ∧ t.swErr = s.swErr) ∧
  (s.cfg.swqDepth ≤ s.swq.length → t.swq = s.swq ∧ t.swErr = (s.swErr + 1) % 2 ^ s.cfg.errw)

/-- What `Push(ENCQ, p)` makes of the queue and its counter (R31). -/
abbrev PushedEnc (p : Pulse) (s t : State) : Prop :=
  (s.encq.length < s.cfg.encqDepth → t.encq = s.encq ++ [p] ∧ t.encErr = s.encErr) ∧
  (s.cfg.encqDepth ≤ s.encq.length → t.encq = s.encq ∧ t.encErr = (s.encErr + 1) % 2 ^ s.cfg.errw)

/-- What adding `d` for the sample `cur` makes of the decoder and its queue (R61 to R64). -/
abbrev Counted (d : Int) (cur : BitVec 2) (s t : State) : Prop :=
  t.qprev = cur ∧
  ((s.cfg.detentThresh : Int) ≤ s.cnt + d → t.cnt = 0 ∧ PushedEnc .plus s t) ∧
  (s.cnt + d < 0 → t.cnt = (s.cfg.detentThresh : Int) - 1 ∧ PushedEnc .minus s t) ∧
  (0 ≤ s.cnt + d → s.cnt + d < (s.cfg.detentThresh : Int) → t.cnt = s.cnt + d ∧ SameEnc s t)

/-- Runs a list of stimulus words from `s`, one step each; `s`'s own stimulus comes after them. -/
def runWords (ws : List StimWord) (s : State) : Result :=
  Host.Core.run Sys2Proof.core ws.length (s.setStim (ws ++ s.stim))

/-- A run of clock cycles, each with the stimulus words it is written as: every sequence is one its cycle admits in
the state the cycle begins in, and completes. -/
def admittedRun : List (InPorts × List StimWord) → State → Bool
  | [], _ => true
  | (c, ws) :: rest, s =>
    c.admits s ws && match runWords ws s with
      | .next t => admittedRun rest t
      | _ => false

/-- The pin levels one `MSINC` sees, `ptt_n`, `tune_n`, `knob_n`. -/
structure Pins where
  pttN : Bool
  tuneN : Bool
  knobN : Bool
  deriving DecidableEq, Repr

/-- The stimulus word of an `MSINC` with these pins. -/
def Pins.word (x : Pins) : StimWord := wordMsinc x.pttN x.tuneN x.knobN

/-- PTT or TUNE is asserted: one of the two active-low pins is 0. -/
def Pins.keyDown (x : Pins) : Prop := x.pttN = false ∨ x.tuneN = false

/-- Neither is: both lines are released. -/
def Pins.released (x : Pins) : Prop := x.pttN = true ∧ x.tuneN = true

/-- The `MSINC` with these pins, as an instruction. -/
def Pins.instr (x : Pins) : Instr := .msinc x.pttN x.tuneN x.knobN

/-- `now` of the next `MSINC`: `(MS + 1) mod 2^W` (R105, R107). -/
def State.nextMs (s : State) : Time := (s.ms + 1) % 2 ^ s.cfg.w

/-- The place of a phase sample in the forward cycle `00, 10, 11, 01` (R50). -/
def quadPlace (x : BitVec 2) : Nat :=
  if x = 0b00#2 then 0 else if x = 0b10#2 then 1 else if x = 0b11#2 then 2 else 3

/-- The signed quadrature movement from one sample to the next: one place forward, one place back, else none
(R57 to R60), written from the cycle and not from the table. -/
def quadMove (prev cur : BitVec 2) : Int :=
  if quadPlace cur = (quadPlace prev + 1) % 4 then 1
  else if quadPlace prev = (quadPlace cur + 1) % 4 then -1
  else 0

/-- The unwrapped movement of a sequence of samples after the sample `prev` (R157 (c)). -/
def quadTravel (prev : BitVec 2) : List (Bool × Bool) → Int
  | [] => 0
  | x :: rest => quadMove prev (sample x.1 x.2) + quadTravel (sample x.1 x.2) rest

/-- The events the sampler and the sequencer push in a tick at time `now`, in the order of R81. -/
def tickEvents (now : Time) (x : Pins) (s : State) : List SwEvent :=
  (if s.tuneQ = x.tuneN then [if x.tuneN then .tuneReleased else .tunePressed] else [])
    ++ (if s.pttQ = x.pttN then [if x.pttN then .pttReleased else .pttPressed] else [])
    ++ (if s.knobQ = true ∧ x.knobN = true then
          [if 1000 ≤ tdiff s.cfg now s.knobT0 then .knobReleasedLong else .knobReleased] else [])
    ++ (if s.seq = .keyed ∧ (x.pttN = false ∨ x.tuneN = false) ∧ 0 ≤ tdiff s.cfg now s.deadline then
          [.txTimedOutEntry]
        else if s.seq = .timedOut ∧ x.pttN = true ∧ x.tuneN = true then [.txTimedOutExit] else [])

/-- The pins an `MSINC` of the cycle sees. -/
def InPorts.pins (c : InPorts) : Pins := ⟨c.pttN, c.tuneN, c.knobN⟩

/-- The cycle's `MSINC` pushes to `SWQ`: it contains a tick that has events (R81, R105). -/
abbrev InPorts.pushesSw (c : InPorts) (s : State) : Prop :=
  c.msEn = true ∧ s.tdiv = 9 ∧ tickEvents s.nextMs c.pins s ≠ []

/-- The cycle's sample pushes to `ENCQ`: its count reaches the threshold or goes below 0 (R61, R62). -/
abbrev InPorts.pushesEnc (c : InPorts) (s : State) : Prop :=
  s.qvalid = true ∧
  ((s.cfg.detentThresh : Int) ≤ s.cnt + quadMove s.qprev (sample c.encA c.encB) ∨
    s.cnt + quadMove s.qprev (sample c.encA c.encB) < 0)

end Sys2Proof.Machine
end

