-- ==== Sys2Proof/WellFormed.lean ====
section
/-! DEFINITION. Which instructions can be formed. The operands of the six operations are free pin levels
(R43), and the only constraint among select-word fields is R48's: "The combination `any` = 0 with `tsel` = 1
cannot be formed". -/
namespace Sys2Proof

/-- `tsel` implies `t`, which implies `any` (R48). -/
def tselNeedsAny (any tsel : Bool) : Bool := !tsel || any

/-- An instruction whose word the block can form. -/
def Instr.wf : Instr → Bool
  | .nop => true
  | .msinc _ _ _ => true
  | .qsample _ _ => true
  | .popsw => true
  | .popenc => true
  | .reset => true
  | .seqIdleHold tsel _ => tselNeedsAny false tsel
  | .seqIdleKey _ _ => true
  | .seqKeywaitAbort tsel _ => tselNeedsAny false tsel
  | .seqKeywaitHold _ => true
  | .seqKeywaitKeyptt => true
  | .seqKeywaitKeytune => true
  | .seqKeyedUnkey tsel _ => tselNeedsAny false tsel
  | .seqKeyedHold _ => true
  | .seqKeyedTimeout _ => true
  | .seqUnmuteHold any tsel => tselNeedsAny any tsel
  | .seqUnmuteDone any tsel => tselNeedsAny any tsel
  | .seqTimedoutExit tsel _ => tselNeedsAny false tsel
  | .seqTimedoutHold _ _ => true
  | .edgePttIdle _ => true
  | .edgePttPress _ => true
  | .edgePttRelease _ => true
  | .edgePttHeld _ => true
  | .edgeTuneIdle _ => true
  | .edgeTunePress _ => true
  | .edgeTuneRelease _ => true
  | .edgeTuneHeld _ => true
  | .edgeKnobIdle _ => true
  | .edgeKnobPress _ => true
  | .edgeKnobReleaseShort => true
  | .edgeKnobReleaseLong => true
  | .edgeKnobHeld _ => true
  | .qt0000 => true
  | .qt0001 => true
  | .qt0010 => true
  | .qt0011 => true
  | .qt0100 => true
  | .qt0101 => true
  | .qt0110 => true
  | .qt0111 => true
  | .qt1000 => true
  | .qt1001 => true
  | .qt1010 => true
  | .qt1011 => true
  | .qt1100 => true
  | .qt1101 => true
  | .qt1110 => true
  | .qt1111 => true

end Sys2Proof
end

