-- ==== Sys2Proof/Certificates/Slice0/Obligations.lean ====
section
/-! DEFINITION. The statements for the provers, each from the rules of the spec it names. -/

open Sys2Proof Sys2Proof.Machine

/-! ### Encodings -/

/-- Every word the encoder writes decodes to the instruction it was written from, whatever the operands
(R41 to R43, R48 to R50). -/
def Obligations.EncodedInstructionDecodesToItself : Prop :=
  ∀ i : Instr, decode (encode i) = .ok i

/-- No bit of a word is dropped: a word that decodes is the encoding of what it decodes to, at all four
decode points. -/
def Obligations.DecodedWordIsTheEncoding : Prop :=
  ∀ (x : CodeWord) (i : Instr), decode x = .ok i → encode i = x

/-- R44: which stimulus words are reserved, how many there are, and that the machine refuses each. -/
def Obligations.ReservedStimulusWordsAreRefused : Prop :=
  (∀ S : StimWord, (∃ e, decodeOp S = .error e) ↔
    (S.extractLsb' 5 3 = 0b101#3 ∨ S.extractLsb' 5 3 = 0b110#3 ∨ S.extractLsb' 3 2 ≠ 0b00#2 ∨
      ((S.extractLsb' 5 3 = 0b000#3 ∨ S.extractLsb' 5 3 = 0b011#3 ∨ S.extractLsb' 5 3 = 0b100#3 ∨
          S.extractLsb' 5 3 = 0b111#3) ∧ S.extractLsb' 0 3 ≠ 0b000#3) ∨
      (S.extractLsb' 5 3 = 0b010#3 ∧ S.getLsbD 2 = true))) ∧
  ((List.range 256).filter (fun n => (decodeOp (BitVec.ofNat 8 n)).toOption.isNone)).length = 240 ∧
  (∀ (s : State) (S : StimWord) (rest : List StimWord) (e : DecodeError),
    s.stim = S :: rest → decodeOp S = .error e → step s = .refused (.reservedStimulus S e))

/-- Words written out from the tables of R42, R43, R48, R49 and R50 decode to the operations and rows they
stand for. -/
def Obligations.SpecWordsDecode : Prop :=
  decode (.op 0x00) = .ok .nop ∧ decode (.op 0x23) = .ok (.msinc false true true) ∧
  decode (.op 0x25) = .ok (.msinc true false true) ∧ decode (.op 0x26) = .ok (.msinc true true false) ∧
  decode (.op 0x42) = .ok (.qsample true false) ∧ decode (.op 0x60) = .ok .popsw ∧
  decode (.op 0x80) = .ok .popenc ∧ decode (.op 0xE0) = .ok .reset ∧
  decode (.seqt 0b001101) = .ok .seqKeywaitKeyptt ∧ decode (.seqt 0b010111) = .ok (.seqKeyedTimeout true) ∧
  decode (.seqt 0b011101) = .ok (.seqUnmuteDone true false) ∧
  decode (.edge 0b10101) = .ok .edgeKnobReleaseLong ∧ decode (.edge 0b01010) = .ok (.edgeTunePress false) ∧
  decode (.qt 0b1011) = .ok .qt1011 ∧ decode (.qt 0b0001) = .ok .qt0001

/-- The decoders and the opcode table's patterns and masks agree, and no word matches two rows. -/
def Obligations.WordMatchesExactlyItsRow : Prop :=
  (∀ (x : CodeWord) (i : Instr), decode x = .ok i → i.row.matchesWord x = true) ∧
  (∀ (x : CodeWord) (j : Instr), j.row.matchesWord x = true → ∃ i, decode x = .ok i ∧ i.row = j.row)

/-! ### The step -/

/-- A step runs the operation its stimulus word decodes to, on the state with that word consumed; with no
word to come, a step is the `NOP` of a cycle without strobe (R7, R41, R42). That the words to come are a list in the
state is the model's choice (log entry 1). -/
def Obligations.StepRunsTheDecodedOperation : Prop :=
  (∀ (s : State) (S : StimWord) (rest : List StimWord) (i : Instr),
    s.stim = S :: rest → decode (.op S) = .ok i → step s = exec i (s.setStim rest)) ∧
  (∀ s : State, s.stim = [] → step s = exec .nop s)

/-- The step relation is total on defined stimulus words and has no step for any other (R128, R44); with no word to
come the step is the `NOP` of a cycle without strobe (R7). That there is a list of words, which can be empty, is the
model's choice (log entry 1). -/
def Obligations.StepTotalOnDefinedWords : Prop :=
  ∀ s : State, (∃ t, step s = .next t) ↔
    (s.stim = [] ∨ ∃ (i : Instr) (rest : List StimWord) (S : StimWord), i.format = .op ∧
      encode i = .op S ∧ s.stim = S :: rest)

/-- A step changes no parameter (R27 (a)) and consumes exactly one stimulus word. Both fields are the model's own (log
entries 1 and 2). -/
def Obligations.StepKeepsParametersConsumesOneWord : Prop :=
  ∀ s t : State, step s = .next t → t.cfg = s.cfg ∧ t.stim = s.stim.tail

/-! ### Reset and invariants -/

/-- `RESET` (word `0xE0`) gives every register the value of R118 whatever the state was, and its ports follow; in a
cycle with `rst` = 1 it is the one operation that takes effect. -/
def Obligations.ResetSetsEveryRegister : Prop :=
  decode (.op 0xE0) = .ok .reset ∧
  (∀ s : State, ∃ t, exec .reset s = .next t ∧
    t.ms = 0 ∧ t.tdiv = 0 ∧ t.pttQ = false ∧ t.tuneQ = false ∧ t.knobQ = false ∧ t.knobT0 = 0 ∧
    t.seq = .idle ∧ t.deadline = 0 ∧ t.mute = false ∧ t.pttOut = false ∧ t.tuneOut = false ∧
    t.swq = [] ∧ t.swErr = 0 ∧ t.qvalid = false ∧ t.qprev = 0 ∧ t.cnt = 0 ∧ t.encq = [] ∧ t.encErr = 0 ∧
    t.ports = { mute := false, pttOut := false, tuneOut := false, swqValid := false, swqData := 0,
                encqValid := false, encqData := 0, swErr := 0, encErr := 0, seqState := 0 }) ∧
  (∀ (c : InPorts) (s : State) (ws : List StimWord), c.rst = true → (c.admits s ws = true ↔ ws = [wordReset]))

/-- The reset state satisfies every invariant of R28, for every admitted choice of the parameters, and so
does any state right after a `RESET`. -/
def Obligations.ResetStateMeetsInvariants : Prop :=
  (∀ c : Params, c.Ok → Inv (State.resetWith c)) ∧ Inv State.reset ∧
  (∀ s : State, s.cfg.Ok → ∃ t, exec .reset s = .next t ∧ Inv t)

/-- Every step keeps the invariants of R28, from every state that meets them and on any stimulus. -/
def Obligations.StepKeepsInvariants : Prop :=
  ∀ s t : State, Inv s → step s = .next t → Inv t

/-! ### Time -/

/-- `NOP` (word `0x00`): no state is read or written, time does not advance, and a `NOP` anywhere in a sequence may be
dropped without changing what running the sequence answers (R115). -/
def Obligations.NopChangesNothing : Prop :=
  decode (.op 0x00) = .ok .nop ∧ (∀ s : State, exec .nop s = .next s) ∧
  (∀ (us ws : List StimWord) (s : State), runWords (us ++ wordNop :: ws) s = runWords (us ++ ws) s)

/-- `tadd(a, k) = (a + k) mod 2^W`, with the examples of R109. -/
def Obligations.TaddIsModularAddition : Prop :=
  (∀ (c : Params) (a k : Time), tadd c a k = (a + k) % 2 ^ c.w) ∧
  tadd Params.default 0xFFFFFF00 250 = 0xFFFFFFFA ∧ tadd Params.default 0xFFFFFFF0 250 = 0x000000EA

/-- R108: `tdiff` is the two's-complement reading of the difference modulo `2^W`, and it is exact, whatever
wraps occurred, when the true distance is in range. -/
def Obligations.TdiffIsSignedDistance : Prop :=
  (∀ (c : Params) (a b : Time), 1 ≤ c.w →
    -((2 : Int) ^ (c.w - 1)) ≤ tdiff c a b ∧ tdiff c a b < (2 : Int) ^ (c.w - 1) ∧
    (tdiff c a b - ((a : Int) - (b : Int))) % ((2 : Int) ^ c.w) = 0) ∧
  (∀ (c : Params) (n j k : Nat), 1 ≤ c.w → -((2 : Int) ^ (c.w - 1)) ≤ (j : Int) - k →
    (j : Int) - k < (2 : Int) ^ (c.w - 1) →
    tdiff c ((n + j) % 2 ^ c.w) ((n + k) % 2 ^ c.w) = (j : Int) - k) ∧
  tdiff Params.default 260 10 = 250 ∧ tdiff Params.default 5 0xFFFFFFFB = 10 ∧
  tdiff Params.default 0xFFFFFFFB 5 = -10 ∧ tdiff Params.default 0x80000000 0 = -2147483648

/-- R110: a deadline armed `k` counts after the reading `n` has expired at the reading `j` counts after `n`
exactly when `k <= j`, across wraps, for every distance below half the range. -/
def Obligations.DeadlineExpiresAtItsTime : Prop :=
  ∀ (s : State) (n j k : Nat), 1 ≤ s.cfg.w → j < 2 ^ (s.cfg.w - 1) → k < 2 ^ (s.cfg.w - 1) →
    s.ms = (n + j) % 2 ^ s.cfg.w → s.deadline = (n + k) % 2 ^ s.cfg.w →
    (expired s = true ↔ k ≤ j)

/-- R105: the word `0x20 + 4*ptt_n + 2*tune_n + knob_n` is an `MSINC`; it counts one millisecond modulo `2^W`; with the
divider at 9 it returns the divider to 0 and runs a tick at the new time on those pins, otherwise it adds 1 to the
divider, and its pins are ignored. -/
def Obligations.MsincCountsOneMillisecond : Prop :=
  (∀ x : Pins, decode (.op (0x20 + 4 * BitVec.ofNat 8 x.pttN.toNat + 2 * BitVec.ofNat 8 x.tuneN.toNat
    + BitVec.ofNat 8 x.knobN.toNat)) = .ok x.instr) ∧
  (∀ (s : State) (x : Pins), s.tdiv = 9 →
    exec x.instr s = .next (tick x.pttN x.tuneN x.knobN { s with ms := (s.ms + 1) % 2 ^ s.cfg.w, tdiv := 0 })) ∧
  (∀ (s : State) (x : Pins), s.tdiv ≠ 9 →
    exec x.instr s = .next { s with ms := (s.ms + 1) % 2 ^ s.cfg.w, tdiv := s.tdiv + 1 })

/-- The `MSINC` that finds the divider at 9 runs a tick: the divider returns to 0, the prior samples become the
logical levels, a KNOB press edge is time-stamped with `now` and leaves the time-stamp alone otherwise; the
decoder, its queue, the host's side and the parameters are unchanged (R105 to R107, R71, R77, R82). -/
def Obligations.TickSamplesAndStamps : Prop :=
  ∀ (s : State) (x : Pins), s.tdiv = 9 → ∃ t, exec x.instr s = .next t ∧
    t.ms = s.nextMs ∧ t.tdiv = 0 ∧ t.pttQ = !x.pttN ∧ t.tuneQ = !x.tuneN ∧ t.knobQ = !x.knobN ∧
    t.knobT0 = (if s.knobQ = false ∧ x.knobN = false then s.nextMs else s.knobT0) ∧
    SameQuad s t ∧ SameEnc s t ∧ SameReturns s t ∧ SameInputs s t

/-- A tick pushes the TUNE event, then the PTT event, then the KNOB event, then the sequencer's event; the first
ones that find room are queued in that order and each of the others is counted (R31, R81, R125, R154). -/
def Obligations.TickPushesEventsInOrder : Prop :=
  ∀ (s : State) (x : Pins), s.tdiv = 9 → s.swErr < 2 ^ s.cfg.errw → ∃ t, exec x.instr s = .next t ∧
    t.swq = s.swq ++ (tickEvents s.nextMs x s).take (s.cfg.swqDepth - s.swq.length) ∧
    t.swErr = (s.swErr + ((tickEvents s.nextMs x s).length - (s.cfg.swqDepth - s.swq.length))) % 2 ^ s.cfg.errw

/-- `n` milliseconds, whatever the pins, advance `MS` by `n` modulo `2^W` and the divider by `n` modulo 10
(R53, R105, R113). -/
def Obligations.MillisecondsAdvanceClockAndDivider : Prop :=
  ∀ (s : State) (xs : List Pins), s.ms < 2 ^ s.cfg.w → s.tdiv.toNat ≤ 9 →
    ∃ t, runWords (xs.map Pins.word) s = .next t ∧ t.ms = (s.ms + xs.length) % 2 ^ s.cfg.w ∧
      t.tdiv.toNat = (s.tdiv.toNat + xs.length) % 10 ∧ t.stim = s.stim

/-! ### The sequencer, clause by clause -/

/-- A tick in IDLE: a key sampled asserted mutes at once and arms the key delay; else nothing of the sequencer
is written (R87, R88). -/
def Obligations.IdleClause : Prop :=
  ∀ (s : State) (x : Pins), s.tdiv = 9 → s.seq = .idle → ∃ t, exec x.instr s = .next t ∧
    (x.released → SameSequencer s t) ∧
    (x.keyDown → t.seq = .keyWait ∧ t.mute = true ∧ t.deadline = (s.nextMs + 250) % 2 ^ s.cfg.w ∧
      t.pttOut = s.pttOut ∧ t.tuneOut = s.tuneOut)

/-- A tick in KEY_WAIT: both released aborts, the deadline reached or not; a key held past the deadline keys the
transmitter, tune-out following the TUNE level of this tick as the parameter says; else nothing is written
(R89 to R92). -/
def Obligations.KeyWaitClause : Prop :=
  ∀ (s : State) (x : Pins), s.tdiv = 9 → s.seq = .keyWait → ∃ t, exec x.instr s = .next t ∧
    (x.released → t.seq = .idle ∧ t.mute = false ∧ t.deadline = s.deadline ∧ t.pttOut = s.pttOut ∧
      t.tuneOut = s.tuneOut) ∧
    (x.keyDown → 0 ≤ tdiff s.cfg s.nextMs s.deadline →
      t.seq = .keyed ∧ t.mute = s.mute ∧ t.pttOut = true ∧ t.deadline = (s.nextMs + 600000) % 2 ^ s.cfg.w ∧
      (t.tuneOut = true ↔ x.tuneN = false ∧ (s.cfg.tuneOutWhenBoth = true ∨ x.pttN = true))) ∧
    (x.keyDown → tdiff s.cfg s.nextMs s.deadline < 0 → SameSequencer s t)

/-- A tick in KEYED: both released unkeys and starts the unmute delay, mute staying; a key held past the deadline
drops all three outputs and enters TIMED_OUT, whether or not the queue had room for the event; else nothing is
written (R93 to R95, R153). -/
def Obligations.KeyedClause : Prop :=
  ∀ (s : State) (x : Pins), s.tdiv = 9 → s.seq = .keyed → ∃ t, exec x.instr s = .next t ∧
    (x.released → t.seq = .unmuteWait ∧ t.mute = s.mute ∧ t.pttOut = false ∧ t.tuneOut = false ∧
      t.deadline = (s.nextMs + 250) % 2 ^ s.cfg.w) ∧
    (x.keyDown → 0 ≤ tdiff s.cfg s.nextMs s.deadline →
      t.seq = .timedOut ∧ t.mute = false ∧ t.pttOut = false ∧ t.tuneOut = false ∧ t.deadline = s.deadline) ∧
    (x.keyDown → tdiff s.cfg s.nextMs s.deadline < 0 → SameSequencer s t)

/-- A tick in UNMUTE_WAIT: at the deadline mute falls and IDLE is entered, before it nothing is written; the keys
are ignored in both cases (R96, R97). -/
def Obligations.UnmuteWaitClause : Prop :=
  ∀ (s : State) (x : Pins), s.tdiv = 9 → s.seq = .unmuteWait → ∃ t, exec x.instr s = .next t ∧
    (0 ≤ tdiff s.cfg s.nextMs s.deadline →
      t.seq = .idle ∧ t.mute = false ∧ t.deadline = s.deadline ∧ t.pttOut = s.pttOut ∧ t.tuneOut = s.tuneOut) ∧
    (tdiff s.cfg s.nextMs s.deadline < 0 → SameSequencer s t)

/-- A tick in TIMED_OUT: both released enters IDLE with no output changed and, the queue having room for all of the
tick's events, `TX_TIMED_OUT_EXIT` the last one pushed; one line held keeps the state (R98, R99). -/
def Obligations.TimedOutClause : Prop :=
  ∀ (s : State) (x : Pins), s.tdiv = 9 → s.seq = .timedOut → ∃ t, exec x.instr s = .next t ∧
    (x.released → t.seq = .idle ∧ t.deadline = s.deadline ∧ SameOutputs s t ∧
      (s.swq.length + 4 ≤ s.cfg.swqDepth → t.swq.getLast? = some .txTimedOutExit)) ∧
    (x.keyDown → SameSequencer s t)

/-! ### Rows of the select words as instructions -/

/-- The transition rows write what their rules say and nothing else, the ignored bits not mattering
(R88 to R91, R93, R94, R96, R98). That a row is an instruction which acts in every state with `now` the value of `MS`,
also where the block would not form its word, is the model's choice (log entry 4). -/
def Obligations.SequencerTransitionRowsAct : Prop :=
  ∀ (s : State) (a b : Bool),
    exec (.seqIdleKey a b) s = .next { s with mute := true, deadline := (s.ms + 250) % 2 ^ s.cfg.w, seq := .keyWait } ∧
    exec (.seqKeywaitAbort a b) s = .next { s with mute := false, seq := .idle } ∧
    exec .seqKeywaitKeyptt s = .next { s with
      pttOut := true, tuneOut := false, deadline := (s.ms + 600000) % 2 ^ s.cfg.w, seq := .keyed } ∧
    exec .seqKeywaitKeytune s = .next { s with
      pttOut := true, tuneOut := true, deadline := (s.ms + 600000) % 2 ^ s.cfg.w, seq := .keyed } ∧
    exec (.seqKeyedUnkey a b) s = .next { s with
      pttOut := false, tuneOut := false, deadline := (s.ms + 250) % 2 ^ s.cfg.w, seq := .unmuteWait } ∧
    exec (.seqUnmuteDone a b) s = .next { s with mute := false, seq := .idle } ∧
    (∃ t, exec (.seqKeyedTimeout a) s = .next t ∧ PushedSw .txTimedOutEntry s t ∧
      t = { s with pttOut := false, tuneOut := false, mute := false, seq := .timedOut,
                   swq := t.swq, swErr := t.swErr }) ∧
    (∃ t, exec (.seqTimedoutExit a b) s = .next t ∧ PushedSw .txTimedOutExit s t ∧
      t = { s with seq := .idle, swq := t.swq, swErr := t.swErr })

/-- The five rows that hold a sequencer state write nothing at all (R87, R92, R95, R97, R99). That a row is an
instruction which acts in every state, also where the block would not form its word, is the model's choice (log
entry 4). -/
def Obligations.SequencerHoldRowsWriteNothing : Prop :=
  ∀ (s : State) (a b : Bool), exec (.seqIdleHold a b) s = .next s ∧ exec (.seqKeywaitHold a) s = .next s ∧
    exec (.seqKeyedHold a) s = .next s ∧ exec (.seqUnmuteHold a b) s = .next s ∧
    exec (.seqTimedoutHold a b) s = .next s

/-- An edge row pushes its event and writes nothing else; the KNOB press row writes the time-stamp and nothing
else; the rows without an edge write nothing (R73 to R80). That a row is an instruction which acts in every state with
`now` the value of `MS`, whatever the prior sample, is the model's choice (log entry 4). -/
def Obligations.EdgeRowsAct : Prop :=
  ∀ (s : State) (lng : Bool),
    (∀ r ∈ [(Instr.edgePttPress lng, SwEvent.pttPressed), (.edgePttRelease lng, .pttReleased),
        (.edgeTunePress lng, .tunePressed), (.edgeTuneRelease lng, .tuneReleased),
        (.edgeKnobReleaseShort, .knobReleased), (.edgeKnobReleaseLong, .knobReleasedLong)],
      ∃ t, exec r.1 s = .next t ∧ PushedSw r.2 s t ∧ t = { s with swq := t.swq, swErr := t.swErr }) ∧
    exec (.edgeKnobPress lng) s = .next { s with knobT0 := s.ms } ∧
    (∀ i ∈ [Instr.edgePttIdle lng, .edgePttHeld lng, .edgeTuneIdle lng, .edgeTuneHeld lng, .edgeKnobIdle lng,
      .edgeKnobHeld lng], exec i s = .next s)

/-- Each quadrature row adds the count of its class for its current sample: +1 for the four forward rows, -1 for
the four backward ones, 0 for repeats and double changes (R57 to R60), with the wraps of R61 to R64, and writes
nothing else. That a row is an instruction which acts in every state and replaces `QPREV`, also where `QVALID` is 0 or
`QPREV` is not the row's, is the model's choice (log entry 4). -/
def Obligations.QuadRowsCount : Prop :=
  ∀ s : State,
    (∀ r ∈ [(Instr.qt0010, 0b10#2), (.qt1011, 0b11#2), (.qt1101, 0b01#2), (.qt0100, 0b00#2)],
      ∃ t, exec r.1 s = .next t ∧ Counted 1 r.2 s t ∧
        t = { s with qprev := t.qprev, cnt := t.cnt, encq := t.encq, encErr := t.encErr }) ∧
    (∀ r ∈ [(Instr.qt0001, 0b01#2), (.qt0111, 0b11#2), (.qt1110, 0b10#2), (.qt1000, 0b00#2)],
      ∃ t, exec r.1 s = .next t ∧ Counted (-1) r.2 s t ∧
        t = { s with qprev := t.qprev, cnt := t.cnt, encq := t.encq, encErr := t.encErr }) ∧
    (∀ r ∈ [(Instr.qt0000, 0b00#2), (.qt0101, 0b01#2), (.qt1010, 0b10#2), (.qt1111, 0b11#2),
        (.qt0011, 0b11#2), (.qt0110, 0b10#2), (.qt1001, 0b01#2), (.qt1100, 0b00#2)],
      ∃ t, exec r.1 s = .next t ∧ Counted 0 r.2 s t ∧
        t = { s with qprev := t.qprev, cnt := t.cnt, encq := t.encq, encErr := t.encErr })

/-- A tick is its four selected rows run in order: the TUNE, PTT and KNOB edge words and the sequencer word formed
from the state at the tick each decode to a row, and running the four rows, the prior samples replaced before the
last, gives the state the `MSINC` gives (R48, R49, R70, R81, R85). -/
def Obligations.TickRunsItsSelectedRows : Prop :=
  ∀ (s : State) (x : Pins), s.tdiv = 9 →
    ∃ (s0 s1 s2 s3 t : State) (i1 i2 i3 i4 : Instr),
      s0 = { s with ms := s.nextMs, tdiv := 0 } ∧
      decode (.edge (edgeWord .tune (!x.tuneN) s0)) = .ok i1 ∧ exec i1 s0 = .next s1 ∧
      decode (.edge (edgeWord .ptt (!x.pttN) s0)) = .ok i2 ∧ exec i2 s1 = .next s2 ∧
      decode (.edge (edgeWord .knob (!x.knobN) s0)) = .ok i3 ∧ exec i3 s2 = .next s3 ∧
      decode (.seqt (seqtWord (!x.pttN) (!x.tuneN) s0)) = .ok i4 ∧ i4.wf = true ∧
      exec i4 { s3 with pttQ := !x.pttN, tuneQ := !x.tuneN, knobQ := !x.knobN } = .next t ∧
      exec x.instr s = .next t

/-- A sample taken while `QVALID` = 1 is the quadrature row its word selects (R50, R55). -/
def Obligations.SampleRunsItsSelectedRow : Prop :=
  ∀ (s : State) (a b : Bool), s.qvalid = true →
    ∃ i t, decode (.qt (qtWord s.qprev (sample a b))) = .ok i ∧ exec i s = .next t ∧
      exec (.qsample a b) s = .next t

/-! ### The quadrature decoder -/

/-- While `QVALID` = 0 a sample only records the lines (R56). -/
def Obligations.FirstSampleOnlyLoads : Prop :=
  ∀ (s : State) (a b : Bool), s.qvalid = false →
    exec (.qsample a b) s = .next { s with qprev := sample a b, qvalid := true }

/-- With a previous sample, a sample counts the movement along the cycle 00, 10, 11, 01 (one place forward +1, one
place back -1, none or two 0) with the wraps, pulses and overflow of R61 to R64, and touches nothing of the other
agents (R55, R57 to R60). -/
def Obligations.SampleCountsAlongTheCycle : Prop :=
  ∀ (s : State) (a b : Bool), s.qvalid = true → ∃ t, exec (.qsample a b) s = .next t ∧
    Counted (quadMove s.qprev (sample a b)) (sample a b) s t ∧ t.qvalid = true ∧
    SameTime s t ∧ SameSampler s t ∧ SameSequencer s t ∧ SameSw s t ∧ SameReturns s t ∧ SameInputs s t

/-- A repeated sample changes nothing at all (R59). -/
def Obligations.RepeatedSampleChangesNothing : Prop :=
  ∀ (s : State) (a b : Bool), s.qvalid = true → s.qprev = sample a b → 0 ≤ s.cnt →
    s.cnt < (s.cfg.detentThresh : Int) → exec (.qsample a b) s = .next s

/-- R157 (c): over any sequence of samples the counter is the travel modulo the threshold, and the pulses produced
sum to the travel divided by it, both toward minus infinity (the queue being deep enough not to drop one). -/
def Obligations.TravelDeterminesCountAndPulses : Prop :=
  ∀ (s : State) (qs : List (Bool × Bool)), 1 ≤ s.cfg.detentThresh → s.qvalid = true → 0 ≤ s.cnt →
    s.cnt < (s.cfg.detentThresh : Int) → s.encq.length + qs.length ≤ s.cfg.encqDepth →
    ∃ (t : State) (new : List Pulse), runWords (qs.map (fun q => wordQ q.1 q.2)) s = .next t ∧
      t.cnt = (s.cnt + quadTravel s.qprev qs) % (s.cfg.detentThresh : Int) ∧
      t.encq = s.encq ++ new ∧
      (new.map Pulse.dir).sum = (s.cnt + quadTravel s.qprev qs) / (s.cfg.detentThresh : Int)

/-- R156: one step back and forth between two adjacent positions pushes a -1 and then a +1 when it starts at count
0, and no pulse when it starts at any other count. -/
def Obligations.ChatterPulsesOnlyAtZero : Prop :=
  ∀ (s : State) (a b c d : Bool), s.qvalid = true → s.qprev = sample a b →
    quadMove (sample a b) (sample c d) = -1 → 0 ≤ s.cnt → s.cnt < (s.cfg.detentThresh : Int) →
    ∃ t, runWords [wordQ c d, wordQ a b] s = .next t ∧ t.cnt = s.cnt ∧ t.qprev = s.qprev ∧
      (s.cnt = 0 → s.encq.length + 2 ≤ s.cfg.encqDepth → t.encq = s.encq ++ [.minus, .plus]) ∧
      (0 < s.cnt → t.encq = s.encq ∧ t.encErr = s.encErr)

/-! ### The queues -/

/-- R31: with room the item becomes the new tail and nothing else changes; on a full queue it is discarded, the
queue is unchanged and its error counter goes up by one modulo `2^ERRW`. Both queues. Of several pushes in a row
the first ones that find room are queued and each of the others is counted. -/
def Obligations.PushAppendsOrCounts : Prop :=
  (∀ (e : SwEvent) (s : State), PushedSw e s (pushSw e s) ∧
    pushSw e s = { s with swq := (pushSw e s).swq, swErr := (pushSw e s).swErr }) ∧
  (∀ (p : Pulse) (s : State), PushedEnc p s (pushEnc p s) ∧
    pushEnc p s = { s with encq := (pushEnc p s).encq, encErr := (pushEnc p s).encErr }) ∧
  (∀ (es : List SwEvent) (s : State), s.swErr < 2 ^ s.cfg.errw →
    es.foldl (fun u e => pushSw e u) s = { s with
      swq := s.swq ++ es.take (s.cfg.swqDepth - s.swq.length),
      swErr := (s.swErr + (es.length - (s.cfg.swqDepth - s.swq.length))) % 2 ^ s.cfg.errw })

/-- `POPSW` (word `0x60`) returns what the ports `swq_valid`, `swq_data` showed just before, removes the head of a queue
that has one, leaves an empty queue empty, and writes nothing else; `swq_valid` follows the new length (R32, R116).
The returned pair is held in the model's field `swRet` (log entry 3). -/
def Obligations.PopswReturnsTheHead : Prop :=
  decode (.op 0x60) = .ok .popsw ∧
  ∀ s : State, exec .popsw s = .next { s with
      swq := s.swq.drop 1, swRet := some (s.ports.swqValid, s.ports.swqData) } ∧
    (s.swq = [] → (s.ports.swqValid, s.ports.swqData) = (false, 0)) ∧
    (∀ e rest, s.swq = e :: rest → (s.ports.swqValid, s.ports.swqData) = (true, e.code)) ∧
    (∀ t, exec .popsw s = .next t → (t.ports.swqValid = true ↔ 1 < s.swq.length))

/-- `POPENC` (word `0x80`) returns what the ports `encq_valid`, `encq_data` showed just before, removes the head of a
queue that has one, leaves an empty queue empty, and writes nothing else; `encq_valid` follows the new length
(R32, R117). The returned pair is held in the model's field `encRet` (log entry 3). -/
def Obligations.PopencReturnsTheHead : Prop :=
  decode (.op 0x80) = .ok .popenc ∧
  ∀ s : State, exec .popenc s = .next { s with
      encq := s.encq.drop 1, encRet := some (s.ports.encqValid, s.ports.encqData) } ∧
    (s.encq = [] → (s.ports.encqValid, s.ports.encqData) = (false, 0)) ∧
    (∀ p rest, s.encq = p :: rest → (s.ports.encqValid, s.ports.encqData) = (true, p.code)) ∧
    (∀ t, exec .popenc s = .next t → (t.ports.encqValid = true ↔ 1 < s.encq.length))

/-- A queued item stays in its place until a pop of its queue or a reset: every other step only adds at the tail
(R33, R40). -/
def Obligations.QueuedItemsStayInOrder : Prop :=
  ∀ s t : State, step s = .next t →
    (s.swq <+: t.swq ∨ (∃ rest, s.stim = wordPopsw :: rest ∧ t.swq = s.swq.tail) ∨
      (∃ rest, s.stim = wordReset :: rest ∧ t.swq = [])) ∧
    (s.encq <+: t.encq ∨ (∃ rest, s.stim = wordPopenc :: rest ∧ t.encq = s.encq.tail) ∨
      (∃ rest, s.stim = wordReset :: rest ∧ t.encq = []))

/-- Successive pops return the queued events first in, first out, and the pop after the last one returns
`(0, 0)` (R32, R33, R53). -/
def Obligations.DrainReturnsEventsInOrder : Prop :=
  ∀ s : State,
    (∀ (n : Nat) (h : n < s.swq.length), ∃ t, runWords (List.replicate (n + 1) wordPopsw) s = .next t ∧
      t.swRet = some (true, (s.swq[n]).code) ∧ t.swq = s.swq.drop (n + 1)) ∧
    (∃ t, runWords (drainSw s) s = .next t ∧ t.swRet = some (false, 0) ∧ t.swq = [])

/-! ### Agents, cycles, interference -/

/-- Each agent's instructions complete from every state (the six operations: R128) and write only what R6 and R25 let
that agent write. That no instruction writes the parameters or the stimulus, that `RESET` leaves what pops have
returned, and that the 42 select rows are instructions which act in every state, is the model's choice (log entries
1 to 4). -/
def Obligations.AgentsWriteOnlyTheirRegisters : Prop :=
  ∀ (i : Instr) (s : State), ∃ t, exec i s = .next t ∧ SameInputs s t ∧
    (i.agent = .timebase → SameQuad s t ∧ SameEnc s t ∧ SameReturns s t) ∧
    (i.agent = .quadratureSampler →
      SameTime s t ∧ SameSampler s t ∧ SameSequencer s t ∧ SameSw s t ∧ SameReturns s t) ∧
    (i.agent = .host → i ≠ .reset →
      SameTime s t ∧ SameSampler s t ∧ SameSequencer s t ∧ SameQuad s t ∧ t.swErr = s.swErr ∧
      t.encErr = s.encErr ∧ (t.swq = s.swq ∨ t.swq = s.swq.tail) ∧ (t.encq = s.encq ∨ t.encq = s.encq.tail)) ∧
    (i = .reset → SameReturns s t)

/-- The two producers commute: an `MSINC` and a `QSAMPLE` give the same state in either order (R131 (b)). -/
def Obligations.ProducersCommute : Prop :=
  ∀ (s : State) (x : Pins) (a b : Bool), ∃ s1 s2 t,
    exec x.instr s = .next s1 ∧ exec (.qsample a b) s1 = .next t ∧
    exec (.qsample a b) s = .next s2 ∧ exec x.instr s2 = .next t

/-- In a cycle in which no queue is both pushed by its producer and popped, every admitted serial form completes and
gives the same state, one that leaves out a repeated sample among them, the count being in range then (R7, R35, R59,
R65, R131). Which sequences a cycle admits is the model's reading of these rules (log entry 9). -/
def Obligations.CycleOrderIsImmaterial : Prop :=
  ∀ (c : InPorts) (s : State) (ws vs : List StimWord), c.admits s ws = true → c.admits s vs = true →
    ¬ (c.pushesSw s ∧ c.swqPop = true) → ¬ (c.pushesEnc s ∧ c.encqPop = true) →
    (c.repeats s = true → 0 ≤ s.cnt ∧ s.cnt < (s.cfg.detentThresh : Int)) →
    ∃ t, runWords ws s = .next t ∧ runWords vs s = .next t

/-- R35: a producer and a pop of its queue agree in both orders when the queue is neither empty nor short of room
for what the producer can push. -/
def Obligations.CoincidentPushAndPopAgree : Prop :=
  ∀ (s : State) (x : Pins) (a b : Bool),
    (s.swq ≠ [] → s.swq.length + 4 ≤ s.cfg.swqDepth → ∃ s1 s2 t,
      exec x.instr s = .next s1 ∧ exec .popsw s1 = .next t ∧
      exec .popsw s = .next s2 ∧ exec x.instr s2 = .next t) ∧
    (s.encq ≠ [] → s.encq.length + 1 ≤ s.cfg.encqDepth → ∃ s1 s2 t,
      exec (.qsample a b) s = .next s1 ∧ exec .popenc s1 = .next t ∧
      exec .popenc s = .next s2 ∧ exec (.qsample a b) s2 = .next t)

/-- A cycle with `rst` = 1 performs `RESET` and nothing else (R7, R131 (a)). A cycle with no strobe (R7) takes its
sample (R65), and may be written `NOP` exactly when that sample repeats `QPREV` (R59, R65, R115): a line that differs
from `QPREV`, or a first sample, is never left out. That these are the sequences a cycle admits is the model's reading
of the rules (log entry 9). -/
def Obligations.ResetCycleAdmitsOnlyReset : Prop :=
  (∀ (c : InPorts) (s : State) (ws : List StimWord), c.rst = true → (c.admits s ws = true ↔ ws = [wordReset])) ∧
  (∀ (c : InPorts) (s : State) (ws : List StimWord), c.rst = false → c.msEn = false → c.swqPop = false →
    c.encqPop = false → (c.admits s ws = true ↔ ws = [wordQ c.encA c.encB] ∨
      (ws = [wordNop] ∧ s.qvalid = true ∧ s.qprev = sample c.encA c.encB)))

/-- Nothing but the clock, the sequencer's own registers and the stimulus decides what the sequencer does: the
queues, the error counters, the prior samples, the decoder and the host's pops have no influence (R85, R120). -/
def Obligations.SequencerIgnoresEverythingElse : Prop :=
  ∀ s s' t t' : State, SameInputs s s' → SameTime s s' → SameSequencer s s' →
    step s = .next t → step s' = .next t' → SameTime t t' ∧ SameSequencer t t'

/-- Nothing but its own registers and the stimulus decides what the decoder counts (R55, R65). -/
def Obligations.DecoderIgnoresEverythingElse : Prop :=
  ∀ s s' t t' : State, SameInputs s s' → SameQuad s s' →
    step s = .next t → step s' = .next t' → SameQuad t t'

/-! ### The sequencer over whole runs and whole steps -/

/-- R102: a step changes `SEQ` only by one of the listed arcs under its condition at a tick, or by `RESET`. -/
def Obligations.SequencerTakesOnlyListedArcs : Prop :=
  ∀ s t : State, step s = .next t → t.seq ≠ s.seq →
    (∃ rest, s.stim = wordReset :: rest ∧ t.seq = .idle) ∨
    (∃ (x : Pins) (rest : List StimWord), s.stim = x.word :: rest ∧ s.tdiv = 9 ∧
      ((s.seq = .idle ∧ t.seq = .keyWait ∧ x.keyDown) ∨
       (s.seq = .keyWait ∧ t.seq = .idle ∧ x.released) ∨
       (s.seq = .keyWait ∧ t.seq = .keyed ∧ x.keyDown ∧ 0 ≤ tdiff s.cfg s.nextMs s.deadline) ∨
       (s.seq = .keyed ∧ t.seq = .unmuteWait ∧ x.released) ∨
       (s.seq = .keyed ∧ t.seq = .timedOut ∧ x.keyDown ∧ 0 ≤ tdiff s.cfg s.nextMs s.deadline) ∨
       (s.seq = .unmuteWait ∧ t.seq = .idle ∧ 0 ≤ tdiff s.cfg s.nextMs s.deadline) ∨
       (s.seq = .timedOut ∧ t.seq = .idle ∧ x.released)))

/-- The outputs change at a tick or a reset and at no other step: no pop, no sample and no `MSINC` between ticks
moves one (R101, R135). -/
def Obligations.OutputsChangeOnlyAtTickOrReset : Prop :=
  ∀ s t : State, step s = .next t → ¬ SameOutputs s t →
    (∃ rest, s.stim = wordReset :: rest) ∨
    (∃ (x : Pins) (rest : List StimWord), s.stim = x.word :: rest ∧ s.tdiv = 9)

/-- The transmitter is keyed only by a tick in KEY_WAIT that samples a key asserted with the deadline reached
(R90, R91, R103 (b)). -/
def Obligations.PttOutRisesOnlyAtExpiredKeyWait : Prop :=
  ∀ s t : State, step s = .next t → s.pttOut = false → t.pttOut = true →
    s.seq = .keyWait ∧ t.seq = .keyed ∧ ∃ (x : Pins) (rest : List StimWord), s.stim = x.word :: rest ∧
      s.tdiv = 9 ∧ x.keyDown ∧ 0 ≤ tdiff s.cfg s.nextMs s.deadline

/-- While KEYED is held, tune-out keeps the level it was given on entry and the time-out is not re-armed, whatever
the lines do (R95, R150). -/
def Obligations.TuneOutLatchedWhileKeyed : Prop :=
  ∀ s t : State, step s = .next t → s.seq = .keyed → t.seq = .keyed →
    t.tuneOut = s.tuneOut ∧ t.deadline = s.deadline ∧ t.pttOut = s.pttOut ∧ t.mute = s.mute

/-- From the tick that entered KEY_WAIT, with a key asserted at every `MSINC`, the transmitter is keyed by exactly
the 250th `MSINC`, across any wrap of `MS` (R90 to R92, R103 (b), R110, R161). -/
def Obligations.KeyDelayIsExact : Prop :=
  ∀ (s : State) (xs : List Pins), s.cfg.Ok → s.seq = .keyWait → s.tdiv = 0 →
    s.deadline = (s.ms + 250) % 2 ^ s.cfg.w → (∀ x ∈ xs, x.keyDown) →
    (xs.length < 250 → ∃ t, runWords (xs.map Pins.word) s = .next t ∧ SameSequencer s t) ∧
    (xs.length = 250 → ∃ t, runWords (xs.map Pins.word) s = .next t ∧ t.seq = .keyed ∧ t.pttOut = true ∧
      t.mute = s.mute)

/-- From the tick that entered KEYED, with a key asserted at every `MSINC`, the sequencer stays KEYED for 599999 more
and is in TIMED_OUT with all outputs de-asserted from the 600000th on, however long the key stays down; and
`TX_TIMED_OUT_ENTRY` is pushed exactly once (R94, R95, R99, R103 (d)). -/
def Obligations.StuckKeyTimesOutOnce : Prop :=
  ∀ (s : State) (xs : List Pins), s.cfg.Ok → s.seq = .keyed → s.tdiv = 0 →
    s.deadline = (s.ms + 600000) % 2 ^ s.cfg.w → (∀ x ∈ xs, x.keyDown) →
    (xs.length < 600000 → ∃ t, runWords (xs.map Pins.word) s = .next t ∧ SameSequencer s t) ∧
    (600000 ≤ xs.length → ∃ t, runWords (xs.map Pins.word) s = .next t ∧ t.seq = .timedOut ∧
      t.mute = false ∧ t.pttOut = false ∧ t.tuneOut = false ∧
      (s.swq.length + 4 * (xs.length / 10) ≤ s.cfg.swqDepth → ∃ new, t.swq = s.swq ++ new ∧
        new.count .txTimedOutEntry = 1))

/-- From the tick that entered UNMUTE_WAIT, whatever the lines do, mute is held for 249 more `MSINC` and falls at
exactly the 250th, which enters IDLE (R96, R97, R148, R161). -/
def Obligations.UnmuteDelayIsExact : Prop :=
  ∀ (s : State) (xs : List Pins), s.cfg.Ok → s.seq = .unmuteWait → s.tdiv = 0 →
    s.deadline = (s.ms + 250) % 2 ^ s.cfg.w →
    (xs.length < 250 → ∃ t, runWords (xs.map Pins.word) s = .next t ∧ SameSequencer s t) ∧
    (xs.length = 250 → ∃ t, runWords (xs.map Pins.word) s = .next t ∧ t.seq = .idle ∧ t.mute = false ∧
      t.pttOut = s.pttOut ∧ t.tuneOut = s.tuneOut)

/-- A KNOB release sampled `h` counts after its press was, `h` below `2^W`, is long exactly when `h` is at least 1000
and below half the range, else short (R78, R79, R111, R112). -/
def Obligations.KnobHoldIsClassified : Prop :=
  ∀ (s : State) (x : Pins) (h : Nat), s.cfg.Ok → s.tdiv = 9 → s.knobQ = true → x.knobN = true →
    h < 2 ^ s.cfg.w → s.nextMs = (s.knobT0 + h) % 2 ^ s.cfg.w → s.swq.length + 4 ≤ s.cfg.swqDepth →
    ∃ t new, exec x.instr s = .next t ∧ t.swq = s.swq ++ new ∧
      (SwEvent.knobReleasedLong ∈ new ↔ 1000 ≤ h ∧ h < 2 ^ (s.cfg.w - 1)) ∧
      (SwEvent.knobReleased ∈ new ↔ h < 1000 ∨ 2 ^ (s.cfg.w - 1) ≤ h)

/-! ### Runs of clock cycles -/

/-- Over any run of clock cycles, resets and every other operation among them, the decoder's registers are those of a
decoder that samples in every cycle, so leaving out repeats shows nowhere (R59, R65); with no pulse popped the pulse
queue and its counter are the same too; and after a cycle without reset `QPREV` holds that cycle's lines. Which
sequences a cycle admits is the model's reading of these rules (log entry 9). -/
def Obligations.DecoderFollowsEveryClockCycle : Prop :=
  ∀ (s : State) (cs : List (InPorts × List StimWord)), 0 ≤ s.cnt → s.cnt < (s.cfg.detentThresh : Int) →
    admittedRun cs s = true →
    ∃ t u, runWords (cs.flatMap (fun x => x.2)) s = .next t ∧
      runWords (cs.map (fun x => if x.1.rst then wordReset else wordQ x.1.encA x.1.encB)) s = .next u ∧
      SameQuad u t ∧ ((∀ x ∈ cs, x.1.encqPop = false) → SameEnc u t) ∧
      (∀ c ws, cs.getLast? = some (c, ws) → c.rst = false → t.qvalid = true ∧ t.qprev = sample c.encA c.encB)
end

