-- ==== Sys2Proof/Laws/State.lean ====
section
/-! SUPPORT. One lemma per field per update of State, true by rfl. -/
namespace Sys2Proof.Machine

@[simp] theorem State.setMs_cfg (s : State) (v : Time) : (s.setMs v).cfg = s.cfg := rfl
@[simp] theorem State.setMs_ms (s : State) (v : Time) : (s.setMs v).ms = v := rfl
@[simp] theorem State.setMs_tdiv (s : State) (v : Time) : (s.setMs v).tdiv = s.tdiv := rfl
@[simp] theorem State.setMs_pttQ (s : State) (v : Time) : (s.setMs v).pttQ = s.pttQ := rfl
@[simp] theorem State.setMs_tuneQ (s : State) (v : Time) : (s.setMs v).tuneQ = s.tuneQ := rfl
@[simp] theorem State.setMs_knobQ (s : State) (v : Time) : (s.setMs v).knobQ = s.knobQ := rfl
@[simp] theorem State.setMs_knobT0 (s : State) (v : Time) : (s.setMs v).knobT0 = s.knobT0 := rfl
@[simp] theorem State.setMs_seq (s : State) (v : Time) : (s.setMs v).seq = s.seq := rfl
@[simp] theorem State.setMs_deadline (s : State) (v : Time) : (s.setMs v).deadline = s.deadline := rfl
@[simp] theorem State.setMs_mute (s : State) (v : Time) : (s.setMs v).mute = s.mute := rfl
@[simp] theorem State.setMs_pttOut (s : State) (v : Time) : (s.setMs v).pttOut = s.pttOut := rfl
@[simp] theorem State.setMs_tuneOut (s : State) (v : Time) : (s.setMs v).tuneOut = s.tuneOut := rfl
@[simp] theorem State.setMs_swq (s : State) (v : Time) : (s.setMs v).swq = s.swq := rfl
@[simp] theorem State.setMs_swErr (s : State) (v : Time) : (s.setMs v).swErr = s.swErr := rfl
@[simp] theorem State.setMs_qvalid (s : State) (v : Time) : (s.setMs v).qvalid = s.qvalid := rfl
@[simp] theorem State.setMs_qprev (s : State) (v : Time) : (s.setMs v).qprev = s.qprev := rfl
@[simp] theorem State.setMs_cnt (s : State) (v : Time) : (s.setMs v).cnt = s.cnt := rfl
@[simp] theorem State.setMs_encq (s : State) (v : Time) : (s.setMs v).encq = s.encq := rfl
@[simp] theorem State.setMs_encErr (s : State) (v : Time) : (s.setMs v).encErr = s.encErr := rfl
@[simp] theorem State.setMs_stim (s : State) (v : Time) : (s.setMs v).stim = s.stim := rfl
@[simp] theorem State.setMs_swRet (s : State) (v : Time) : (s.setMs v).swRet = s.swRet := rfl
@[simp] theorem State.setMs_encRet (s : State) (v : Time) : (s.setMs v).encRet = s.encRet := rfl

@[simp] theorem State.setTdiv_cfg (s : State) (v : BitVec 4) : (s.setTdiv v).cfg = s.cfg := rfl
@[simp] theorem State.setTdiv_ms (s : State) (v : BitVec 4) : (s.setTdiv v).ms = s.ms := rfl
@[simp] theorem State.setTdiv_tdiv (s : State) (v : BitVec 4) : (s.setTdiv v).tdiv = v := rfl
@[simp] theorem State.setTdiv_pttQ (s : State) (v : BitVec 4) : (s.setTdiv v).pttQ = s.pttQ := rfl
@[simp] theorem State.setTdiv_tuneQ (s : State) (v : BitVec 4) : (s.setTdiv v).tuneQ = s.tuneQ := rfl
@[simp] theorem State.setTdiv_knobQ (s : State) (v : BitVec 4) : (s.setTdiv v).knobQ = s.knobQ := rfl
@[simp] theorem State.setTdiv_knobT0 (s : State) (v : BitVec 4) : (s.setTdiv v).knobT0 = s.knobT0 := rfl
@[simp] theorem State.setTdiv_seq (s : State) (v : BitVec 4) : (s.setTdiv v).seq = s.seq := rfl
@[simp] theorem State.setTdiv_deadline (s : State) (v : BitVec 4) : (s.setTdiv v).deadline = s.deadline := rfl
@[simp] theorem State.setTdiv_mute (s : State) (v : BitVec 4) : (s.setTdiv v).mute = s.mute := rfl
@[simp] theorem State.setTdiv_pttOut (s : State) (v : BitVec 4) : (s.setTdiv v).pttOut = s.pttOut := rfl
@[simp] theorem State.setTdiv_tuneOut (s : State) (v : BitVec 4) : (s.setTdiv v).tuneOut = s.tuneOut := rfl
@[simp] theorem State.setTdiv_swq (s : State) (v : BitVec 4) : (s.setTdiv v).swq = s.swq := rfl
@[simp] theorem State.setTdiv_swErr (s : State) (v : BitVec 4) : (s.setTdiv v).swErr = s.swErr := rfl
@[simp] theorem State.setTdiv_qvalid (s : State) (v : BitVec 4) : (s.setTdiv v).qvalid = s.qvalid := rfl
@[simp] theorem State.setTdiv_qprev (s : State) (v : BitVec 4) : (s.setTdiv v).qprev = s.qprev := rfl
@[simp] theorem State.setTdiv_cnt (s : State) (v : BitVec 4) : (s.setTdiv v).cnt = s.cnt := rfl
@[simp] theorem State.setTdiv_encq (s : State) (v : BitVec 4) : (s.setTdiv v).encq = s.encq := rfl
@[simp] theorem State.setTdiv_encErr (s : State) (v : BitVec 4) : (s.setTdiv v).encErr = s.encErr := rfl
@[simp] theorem State.setTdiv_stim (s : State) (v : BitVec 4) : (s.setTdiv v).stim = s.stim := rfl
@[simp] theorem State.setTdiv_swRet (s : State) (v : BitVec 4) : (s.setTdiv v).swRet = s.swRet := rfl
@[simp] theorem State.setTdiv_encRet (s : State) (v : BitVec 4) : (s.setTdiv v).encRet = s.encRet := rfl

@[simp] theorem State.setPrior_cfg (s : State) (p t k : Bool) : (s.setPrior p t k).cfg = s.cfg := rfl
@[simp] theorem State.setPrior_ms (s : State) (p t k : Bool) : (s.setPrior p t k).ms = s.ms := rfl
@[simp] theorem State.setPrior_tdiv (s : State) (p t k : Bool) : (s.setPrior p t k).tdiv = s.tdiv := rfl
@[simp] theorem State.setPrior_pttQ (s : State) (p t k : Bool) : (s.setPrior p t k).pttQ = p := rfl
@[simp] theorem State.setPrior_tuneQ (s : State) (p t k : Bool) : (s.setPrior p t k).tuneQ = t := rfl
@[simp] theorem State.setPrior_knobQ (s : State) (p t k : Bool) : (s.setPrior p t k).knobQ = k := rfl
@[simp] theorem State.setPrior_knobT0 (s : State) (p t k : Bool) : (s.setPrior p t k).knobT0 = s.knobT0 := rfl
@[simp] theorem State.setPrior_seq (s : State) (p t k : Bool) : (s.setPrior p t k).seq = s.seq := rfl
@[simp] theorem State.setPrior_deadline (s : State) (p t k : Bool) : (s.setPrior p t k).deadline = s.deadline := rfl
@[simp] theorem State.setPrior_mute (s : State) (p t k : Bool) : (s.setPrior p t k).mute = s.mute := rfl
@[simp] theorem State.setPrior_pttOut (s : State) (p t k : Bool) : (s.setPrior p t k).pttOut = s.pttOut := rfl
@[simp] theorem State.setPrior_tuneOut (s : State) (p t k : Bool) : (s.setPrior p t k).tuneOut = s.tuneOut := rfl
@[simp] theorem State.setPrior_swq (s : State) (p t k : Bool) : (s.setPrior p t k).swq = s.swq := rfl
@[simp] theorem State.setPrior_swErr (s : State) (p t k : Bool) : (s.setPrior p t k).swErr = s.swErr := rfl
@[simp] theorem State.setPrior_qvalid (s : State) (p t k : Bool) : (s.setPrior p t k).qvalid = s.qvalid := rfl
@[simp] theorem State.setPrior_qprev (s : State) (p t k : Bool) : (s.setPrior p t k).qprev = s.qprev := rfl
@[simp] theorem State.setPrior_cnt (s : State) (p t k : Bool) : (s.setPrior p t k).cnt = s.cnt := rfl
@[simp] theorem State.setPrior_encq (s : State) (p t k : Bool) : (s.setPrior p t k).encq = s.encq := rfl
@[simp] theorem State.setPrior_encErr (s : State) (p t k : Bool) : (s.setPrior p t k).encErr = s.encErr := rfl
@[simp] theorem State.setPrior_stim (s : State) (p t k : Bool) : (s.setPrior p t k).stim = s.stim := rfl
@[simp] theorem State.setPrior_swRet (s : State) (p t k : Bool) : (s.setPrior p t k).swRet = s.swRet := rfl
@[simp] theorem State.setPrior_encRet (s : State) (p t k : Bool) : (s.setPrior p t k).encRet = s.encRet := rfl

@[simp] theorem State.setKnobT0_cfg (s : State) (v : Time) : (s.setKnobT0 v).cfg = s.cfg := rfl
@[simp] theorem State.setKnobT0_ms (s : State) (v : Time) : (s.setKnobT0 v).ms = s.ms := rfl
@[simp] theorem State.setKnobT0_tdiv (s : State) (v : Time) : (s.setKnobT0 v).tdiv = s.tdiv := rfl
@[simp] theorem State.setKnobT0_pttQ (s : State) (v : Time) : (s.setKnobT0 v).pttQ = s.pttQ := rfl
@[simp] theorem State.setKnobT0_tuneQ (s : State) (v : Time) : (s.setKnobT0 v).tuneQ = s.tuneQ := rfl
@[simp] theorem State.setKnobT0_knobQ (s : State) (v : Time) : (s.setKnobT0 v).knobQ = s.knobQ := rfl
@[simp] theorem State.setKnobT0_knobT0 (s : State) (v : Time) : (s.setKnobT0 v).knobT0 = v := rfl
@[simp] theorem State.setKnobT0_seq (s : State) (v : Time) : (s.setKnobT0 v).seq = s.seq := rfl
@[simp] theorem State.setKnobT0_deadline (s : State) (v : Time) : (s.setKnobT0 v).deadline = s.deadline := rfl
@[simp] theorem State.setKnobT0_mute (s : State) (v : Time) : (s.setKnobT0 v).mute = s.mute := rfl
@[simp] theorem State.setKnobT0_pttOut (s : State) (v : Time) : (s.setKnobT0 v).pttOut = s.pttOut := rfl
@[simp] theorem State.setKnobT0_tuneOut (s : State) (v : Time) : (s.setKnobT0 v).tuneOut = s.tuneOut := rfl
@[simp] theorem State.setKnobT0_swq (s : State) (v : Time) : (s.setKnobT0 v).swq = s.swq := rfl
@[simp] theorem State.setKnobT0_swErr (s : State) (v : Time) : (s.setKnobT0 v).swErr = s.swErr := rfl
@[simp] theorem State.setKnobT0_qvalid (s : State) (v : Time) : (s.setKnobT0 v).qvalid = s.qvalid := rfl
@[simp] theorem State.setKnobT0_qprev (s : State) (v : Time) : (s.setKnobT0 v).qprev = s.qprev := rfl
@[simp] theorem State.setKnobT0_cnt (s : State) (v : Time) : (s.setKnobT0 v).cnt = s.cnt := rfl
@[simp] theorem State.setKnobT0_encq (s : State) (v : Time) : (s.setKnobT0 v).encq = s.encq := rfl
@[simp] theorem State.setKnobT0_encErr (s : State) (v : Time) : (s.setKnobT0 v).encErr = s.encErr := rfl
@[simp] theorem State.setKnobT0_stim (s : State) (v : Time) : (s.setKnobT0 v).stim = s.stim := rfl
@[simp] theorem State.setKnobT0_swRet (s : State) (v : Time) : (s.setKnobT0 v).swRet = s.swRet := rfl
@[simp] theorem State.setKnobT0_encRet (s : State) (v : Time) : (s.setKnobT0 v).encRet = s.encRet := rfl

@[simp] theorem State.setSeq_cfg (s : State) (v : SeqState) : (s.setSeq v).cfg = s.cfg := rfl
@[simp] theorem State.setSeq_ms (s : State) (v : SeqState) : (s.setSeq v).ms = s.ms := rfl
@[simp] theorem State.setSeq_tdiv (s : State) (v : SeqState) : (s.setSeq v).tdiv = s.tdiv := rfl
@[simp] theorem State.setSeq_pttQ (s : State) (v : SeqState) : (s.setSeq v).pttQ = s.pttQ := rfl
@[simp] theorem State.setSeq_tuneQ (s : State) (v : SeqState) : (s.setSeq v).tuneQ = s.tuneQ := rfl
@[simp] theorem State.setSeq_knobQ (s : State) (v : SeqState) : (s.setSeq v).knobQ = s.knobQ := rfl
@[simp] theorem State.setSeq_knobT0 (s : State) (v : SeqState) : (s.setSeq v).knobT0 = s.knobT0 := rfl
@[simp] theorem State.setSeq_seq (s : State) (v : SeqState) : (s.setSeq v).seq = v := rfl
@[simp] theorem State.setSeq_deadline (s : State) (v : SeqState) : (s.setSeq v).deadline = s.deadline := rfl
@[simp] theorem State.setSeq_mute (s : State) (v : SeqState) : (s.setSeq v).mute = s.mute := rfl
@[simp] theorem State.setSeq_pttOut (s : State) (v : SeqState) : (s.setSeq v).pttOut = s.pttOut := rfl
@[simp] theorem State.setSeq_tuneOut (s : State) (v : SeqState) : (s.setSeq v).tuneOut = s.tuneOut := rfl
@[simp] theorem State.setSeq_swq (s : State) (v : SeqState) : (s.setSeq v).swq = s.swq := rfl
@[simp] theorem State.setSeq_swErr (s : State) (v : SeqState) : (s.setSeq v).swErr = s.swErr := rfl
@[simp] theorem State.setSeq_qvalid (s : State) (v : SeqState) : (s.setSeq v).qvalid = s.qvalid := rfl
@[simp] theorem State.setSeq_qprev (s : State) (v : SeqState) : (s.setSeq v).qprev = s.qprev := rfl
@[simp] theorem State.setSeq_cnt (s : State) (v : SeqState) : (s.setSeq v).cnt = s.cnt := rfl
@[simp] theorem State.setSeq_encq (s : State) (v : SeqState) : (s.setSeq v).encq = s.encq := rfl
@[simp] theorem State.setSeq_encErr (s : State) (v : SeqState) : (s.setSeq v).encErr = s.encErr := rfl
@[simp] theorem State.setSeq_stim (s : State) (v : SeqState) : (s.setSeq v).stim = s.stim := rfl
@[simp] theorem State.setSeq_swRet (s : State) (v : SeqState) : (s.setSeq v).swRet = s.swRet := rfl
@[simp] theorem State.setSeq_encRet (s : State) (v : SeqState) : (s.setSeq v).encRet = s.encRet := rfl

@[simp] theorem State.setDeadline_cfg (s : State) (v : Time) : (s.setDeadline v).cfg = s.cfg := rfl
@[simp] theorem State.setDeadline_ms (s : State) (v : Time) : (s.setDeadline v).ms = s.ms := rfl
@[simp] theorem State.setDeadline_tdiv (s : State) (v : Time) : (s.setDeadline v).tdiv = s.tdiv := rfl
@[simp] theorem State.setDeadline_pttQ (s : State) (v : Time) : (s.setDeadline v).pttQ = s.pttQ := rfl
@[simp] theorem State.setDeadline_tuneQ (s : State) (v : Time) : (s.setDeadline v).tuneQ = s.tuneQ := rfl
@[simp] theorem State.setDeadline_knobQ (s : State) (v : Time) : (s.setDeadline v).knobQ = s.knobQ := rfl
@[simp] theorem State.setDeadline_knobT0 (s : State) (v : Time) : (s.setDeadline v).knobT0 = s.knobT0 := rfl
@[simp] theorem State.setDeadline_seq (s : State) (v : Time) : (s.setDeadline v).seq = s.seq := rfl
@[simp] theorem State.setDeadline_deadline (s : State) (v : Time) : (s.setDeadline v).deadline = v := rfl
@[simp] theorem State.setDeadline_mute (s : State) (v : Time) : (s.setDeadline v).mute = s.mute := rfl
@[simp] theorem State.setDeadline_pttOut (s : State) (v : Time) : (s.setDeadline v).pttOut = s.pttOut := rfl
@[simp] theorem State.setDeadline_tuneOut (s : State) (v : Time) : (s.setDeadline v).tuneOut = s.tuneOut := rfl
@[simp] theorem State.setDeadline_swq (s : State) (v : Time) : (s.setDeadline v).swq = s.swq := rfl
@[simp] theorem State.setDeadline_swErr (s : State) (v : Time) : (s.setDeadline v).swErr = s.swErr := rfl
@[simp] theorem State.setDeadline_qvalid (s : State) (v : Time) : (s.setDeadline v).qvalid = s.qvalid := rfl
@[simp] theorem State.setDeadline_qprev (s : State) (v : Time) : (s.setDeadline v).qprev = s.qprev := rfl
@[simp] theorem State.setDeadline_cnt (s : State) (v : Time) : (s.setDeadline v).cnt = s.cnt := rfl
@[simp] theorem State.setDeadline_encq (s : State) (v : Time) : (s.setDeadline v).encq = s.encq := rfl
@[simp] theorem State.setDeadline_encErr (s : State) (v : Time) : (s.setDeadline v).encErr = s.encErr := rfl
@[simp] theorem State.setDeadline_stim (s : State) (v : Time) : (s.setDeadline v).stim = s.stim := rfl
@[simp] theorem State.setDeadline_swRet (s : State) (v : Time) : (s.setDeadline v).swRet = s.swRet := rfl
@[simp] theorem State.setDeadline_encRet (s : State) (v : Time) : (s.setDeadline v).encRet = s.encRet := rfl

@[simp] theorem State.setMute_cfg (s : State) (v : Bool) : (s.setMute v).cfg = s.cfg := rfl
@[simp] theorem State.setMute_ms (s : State) (v : Bool) : (s.setMute v).ms = s.ms := rfl
@[simp] theorem State.setMute_tdiv (s : State) (v : Bool) : (s.setMute v).tdiv = s.tdiv := rfl
@[simp] theorem State.setMute_pttQ (s : State) (v : Bool) : (s.setMute v).pttQ = s.pttQ := rfl
@[simp] theorem State.setMute_tuneQ (s : State) (v : Bool) : (s.setMute v).tuneQ = s.tuneQ := rfl
@[simp] theorem State.setMute_knobQ (s : State) (v : Bool) : (s.setMute v).knobQ = s.knobQ := rfl
@[simp] theorem State.setMute_knobT0 (s : State) (v : Bool) : (s.setMute v).knobT0 = s.knobT0 := rfl
@[simp] theorem State.setMute_seq (s : State) (v : Bool) : (s.setMute v).seq = s.seq := rfl
@[simp] theorem State.setMute_deadline (s : State) (v : Bool) : (s.setMute v).deadline = s.deadline := rfl
@[simp] theorem State.setMute_mute (s : State) (v : Bool) : (s.setMute v).mute = v := rfl
@[simp] theorem State.setMute_pttOut (s : State) (v : Bool) : (s.setMute v).pttOut = s.pttOut := rfl
@[simp] theorem State.setMute_tuneOut (s : State) (v : Bool) : (s.setMute v).tuneOut = s.tuneOut := rfl
@[simp] theorem State.setMute_swq (s : State) (v : Bool) : (s.setMute v).swq = s.swq := rfl
@[simp] theorem State.setMute_swErr (s : State) (v : Bool) : (s.setMute v).swErr = s.swErr := rfl
@[simp] theorem State.setMute_qvalid (s : State) (v : Bool) : (s.setMute v).qvalid = s.qvalid := rfl
@[simp] theorem State.setMute_qprev (s : State) (v : Bool) : (s.setMute v).qprev = s.qprev := rfl
@[simp] theorem State.setMute_cnt (s : State) (v : Bool) : (s.setMute v).cnt = s.cnt := rfl
@[simp] theorem State.setMute_encq (s : State) (v : Bool) : (s.setMute v).encq = s.encq := rfl
@[simp] theorem State.setMute_encErr (s : State) (v : Bool) : (s.setMute v).encErr = s.encErr := rfl
@[simp] theorem State.setMute_stim (s : State) (v : Bool) : (s.setMute v).stim = s.stim := rfl
@[simp] theorem State.setMute_swRet (s : State) (v : Bool) : (s.setMute v).swRet = s.swRet := rfl
@[simp] theorem State.setMute_encRet (s : State) (v : Bool) : (s.setMute v).encRet = s.encRet := rfl

@[simp] theorem State.setPttOut_cfg (s : State) (v : Bool) : (s.setPttOut v).cfg = s.cfg := rfl
@[simp] theorem State.setPttOut_ms (s : State) (v : Bool) : (s.setPttOut v).ms = s.ms := rfl
@[simp] theorem State.setPttOut_tdiv (s : State) (v : Bool) : (s.setPttOut v).tdiv = s.tdiv := rfl
@[simp] theorem State.setPttOut_pttQ (s : State) (v : Bool) : (s.setPttOut v).pttQ = s.pttQ := rfl
@[simp] theorem State.setPttOut_tuneQ (s : State) (v : Bool) : (s.setPttOut v).tuneQ = s.tuneQ := rfl
@[simp] theorem State.setPttOut_knobQ (s : State) (v : Bool) : (s.setPttOut v).knobQ = s.knobQ := rfl
@[simp] theorem State.setPttOut_knobT0 (s : State) (v : Bool) : (s.setPttOut v).knobT0 = s.knobT0 := rfl
@[simp] theorem State.setPttOut_seq (s : State) (v : Bool) : (s.setPttOut v).seq = s.seq := rfl
@[simp] theorem State.setPttOut_deadline (s : State) (v : Bool) : (s.setPttOut v).deadline = s.deadline := rfl
@[simp] theorem State.setPttOut_mute (s : State) (v : Bool) : (s.setPttOut v).mute = s.mute := rfl
@[simp] theorem State.setPttOut_pttOut (s : State) (v : Bool) : (s.setPttOut v).pttOut = v := rfl
@[simp] theorem State.setPttOut_tuneOut (s : State) (v : Bool) : (s.setPttOut v).tuneOut = s.tuneOut := rfl
@[simp] theorem State.setPttOut_swq (s : State) (v : Bool) : (s.setPttOut v).swq = s.swq := rfl
@[simp] theorem State.setPttOut_swErr (s : State) (v : Bool) : (s.setPttOut v).swErr = s.swErr := rfl
@[simp] theorem State.setPttOut_qvalid (s : State) (v : Bool) : (s.setPttOut v).qvalid = s.qvalid := rfl
@[simp] theorem State.setPttOut_qprev (s : State) (v : Bool) : (s.setPttOut v).qprev = s.qprev := rfl
@[simp] theorem State.setPttOut_cnt (s : State) (v : Bool) : (s.setPttOut v).cnt = s.cnt := rfl
@[simp] theorem State.setPttOut_encq (s : State) (v : Bool) : (s.setPttOut v).encq = s.encq := rfl
@[simp] theorem State.setPttOut_encErr (s : State) (v : Bool) : (s.setPttOut v).encErr = s.encErr := rfl
@[simp] theorem State.setPttOut_stim (s : State) (v : Bool) : (s.setPttOut v).stim = s.stim := rfl
@[simp] theorem State.setPttOut_swRet (s : State) (v : Bool) : (s.setPttOut v).swRet = s.swRet := rfl
@[simp] theorem State.setPttOut_encRet (s : State) (v : Bool) : (s.setPttOut v).encRet = s.encRet := rfl

@[simp] theorem State.setTuneOut_cfg (s : State) (v : Bool) : (s.setTuneOut v).cfg = s.cfg := rfl
@[simp] theorem State.setTuneOut_ms (s : State) (v : Bool) : (s.setTuneOut v).ms = s.ms := rfl
@[simp] theorem State.setTuneOut_tdiv (s : State) (v : Bool) : (s.setTuneOut v).tdiv = s.tdiv := rfl
@[simp] theorem State.setTuneOut_pttQ (s : State) (v : Bool) : (s.setTuneOut v).pttQ = s.pttQ := rfl
@[simp] theorem State.setTuneOut_tuneQ (s : State) (v : Bool) : (s.setTuneOut v).tuneQ = s.tuneQ := rfl
@[simp] theorem State.setTuneOut_knobQ (s : State) (v : Bool) : (s.setTuneOut v).knobQ = s.knobQ := rfl
@[simp] theorem State.setTuneOut_knobT0 (s : State) (v : Bool) : (s.setTuneOut v).knobT0 = s.knobT0 := rfl
@[simp] theorem State.setTuneOut_seq (s : State) (v : Bool) : (s.setTuneOut v).seq = s.seq := rfl
@[simp] theorem State.setTuneOut_deadline (s : State) (v : Bool) : (s.setTuneOut v).deadline = s.deadline := rfl
@[simp] theorem State.setTuneOut_mute (s : State) (v : Bool) : (s.setTuneOut v).mute = s.mute := rfl
@[simp] theorem State.setTuneOut_pttOut (s : State) (v : Bool) : (s.setTuneOut v).pttOut = s.pttOut := rfl
@[simp] theorem State.setTuneOut_tuneOut (s : State) (v : Bool) : (s.setTuneOut v).tuneOut = v := rfl
@[simp] theorem State.setTuneOut_swq (s : State) (v : Bool) : (s.setTuneOut v).swq = s.swq := rfl
@[simp] theorem State.setTuneOut_swErr (s : State) (v : Bool) : (s.setTuneOut v).swErr = s.swErr := rfl
@[simp] theorem State.setTuneOut_qvalid (s : State) (v : Bool) : (s.setTuneOut v).qvalid = s.qvalid := rfl
@[simp] theorem State.setTuneOut_qprev (s : State) (v : Bool) : (s.setTuneOut v).qprev = s.qprev := rfl
@[simp] theorem State.setTuneOut_cnt (s : State) (v : Bool) : (s.setTuneOut v).cnt = s.cnt := rfl
@[simp] theorem State.setTuneOut_encq (s : State) (v : Bool) : (s.setTuneOut v).encq = s.encq := rfl
@[simp] theorem State.setTuneOut_encErr (s : State) (v : Bool) : (s.setTuneOut v).encErr = s.encErr := rfl
@[simp] theorem State.setTuneOut_stim (s : State) (v : Bool) : (s.setTuneOut v).stim = s.stim := rfl
@[simp] theorem State.setTuneOut_swRet (s : State) (v : Bool) : (s.setTuneOut v).swRet = s.swRet := rfl
@[simp] theorem State.setTuneOut_encRet (s : State) (v : Bool) : (s.setTuneOut v).encRet = s.encRet := rfl

@[simp] theorem State.setSw_cfg (s : State) (q : List SwEvent) (e : Nat) : (s.setSw q e).cfg = s.cfg := rfl
@[simp] theorem State.setSw_ms (s : State) (q : List SwEvent) (e : Nat) : (s.setSw q e).ms = s.ms := rfl
@[simp] theorem State.setSw_tdiv (s : State) (q : List SwEvent) (e : Nat) : (s.setSw q e).tdiv = s.tdiv := rfl
@[simp] theorem State.setSw_pttQ (s : State) (q : List SwEvent) (e : Nat) : (s.setSw q e).pttQ = s.pttQ := rfl
@[simp] theorem State.setSw_tuneQ (s : State) (q : List SwEvent) (e : Nat) : (s.setSw q e).tuneQ = s.tuneQ := rfl
@[simp] theorem State.setSw_knobQ (s : State) (q : List SwEvent) (e : Nat) : (s.setSw q e).knobQ = s.knobQ := rfl
@[simp] theorem State.setSw_knobT0 (s : State) (q : List SwEvent) (e : Nat) : (s.setSw q e).knobT0 = s.knobT0 := rfl
@[simp] theorem State.setSw_seq (s : State) (q : List SwEvent) (e : Nat) : (s.setSw q e).seq = s.seq := rfl
@[simp] theorem State.setSw_deadline (s : State) (q : List SwEvent) (e : Nat) : (s.setSw q e).deadline = s.deadline := rfl
@[simp] theorem State.setSw_mute (s : State) (q : List SwEvent) (e : Nat) : (s.setSw q e).mute = s.mute := rfl
@[simp] theorem State.setSw_pttOut (s : State) (q : List SwEvent) (e : Nat) : (s.setSw q e).pttOut = s.pttOut := rfl
@[simp] theorem State.setSw_tuneOut (s : State) (q : List SwEvent) (e : Nat) : (s.setSw q e).tuneOut = s.tuneOut := rfl
@[simp] theorem State.setSw_swq (s : State) (q : List SwEvent) (e : Nat) : (s.setSw q e).swq = q := rfl
@[simp] theorem State.setSw_swErr (s : State) (q : List SwEvent) (e : Nat) : (s.setSw q e).swErr = e := rfl
@[simp] theorem State.setSw_qvalid (s : State) (q : List SwEvent) (e : Nat) : (s.setSw q e).qvalid = s.qvalid := rfl
@[simp] theorem State.setSw_qprev (s : State) (q : List SwEvent) (e : Nat) : (s.setSw q e).qprev = s.qprev := rfl
@[simp] theorem State.setSw_cnt (s : State) (q : List SwEvent) (e : Nat) : (s.setSw q e).cnt = s.cnt := rfl
@[simp] theorem State.setSw_encq (s : State) (q : List SwEvent) (e : Nat) : (s.setSw q e).encq = s.encq := rfl
@[simp] theorem State.setSw_encErr (s : State) (q : List SwEvent) (e : Nat) : (s.setSw q e).encErr = s.encErr := rfl
@[simp] theorem State.setSw_stim (s : State) (q : List SwEvent) (e : Nat) : (s.setSw q e).stim = s.stim := rfl
@[simp] theorem State.setSw_swRet (s : State) (q : List SwEvent) (e : Nat) : (s.setSw q e).swRet = s.swRet := rfl
@[simp] theorem State.setSw_encRet (s : State) (q : List SwEvent) (e : Nat) : (s.setSw q e).encRet = s.encRet := rfl

@[simp] theorem State.setQvalid_cfg (s : State) (v : Bool) : (s.setQvalid v).cfg = s.cfg := rfl
@[simp] theorem State.setQvalid_ms (s : State) (v : Bool) : (s.setQvalid v).ms = s.ms := rfl
@[simp] theorem State.setQvalid_tdiv (s : State) (v : Bool) : (s.setQvalid v).tdiv = s.tdiv := rfl
@[simp] theorem State.setQvalid_pttQ (s : State) (v : Bool) : (s.setQvalid v).pttQ = s.pttQ := rfl
@[simp] theorem State.setQvalid_tuneQ (s : State) (v : Bool) : (s.setQvalid v).tuneQ = s.tuneQ := rfl
@[simp] theorem State.setQvalid_knobQ (s : State) (v : Bool) : (s.setQvalid v).knobQ = s.knobQ := rfl
@[simp] theorem State.setQvalid_knobT0 (s : State) (v : Bool) : (s.setQvalid v).knobT0 = s.knobT0 := rfl
@[simp] theorem State.setQvalid_seq (s : State) (v : Bool) : (s.setQvalid v).seq = s.seq := rfl
@[simp] theorem State.setQvalid_deadline (s : State) (v : Bool) : (s.setQvalid v).deadline = s.deadline := rfl
@[simp] theorem State.setQvalid_mute (s : State) (v : Bool) : (s.setQvalid v).mute = s.mute := rfl
@[simp] theorem State.setQvalid_pttOut (s : State) (v : Bool) : (s.setQvalid v).pttOut = s.pttOut := rfl
@[simp] theorem State.setQvalid_tuneOut (s : State) (v : Bool) : (s.setQvalid v).tuneOut = s.tuneOut := rfl
@[simp] theorem State.setQvalid_swq (s : State) (v : Bool) : (s.setQvalid v).swq = s.swq := rfl
@[simp] theorem State.setQvalid_swErr (s : State) (v : Bool) : (s.setQvalid v).swErr = s.swErr := rfl
@[simp] theorem State.setQvalid_qvalid (s : State) (v : Bool) : (s.setQvalid v).qvalid = v := rfl
@[simp] theorem State.setQvalid_qprev (s : State) (v : Bool) : (s.setQvalid v).qprev = s.qprev := rfl
@[simp] theorem State.setQvalid_cnt (s : State) (v : Bool) : (s.setQvalid v).cnt = s.cnt := rfl
@[simp] theorem State.setQvalid_encq (s : State) (v : Bool) : (s.setQvalid v).encq = s.encq := rfl
@[simp] theorem State.setQvalid_encErr (s : State) (v : Bool) : (s.setQvalid v).encErr = s.encErr := rfl
@[simp] theorem State.setQvalid_stim (s : State) (v : Bool) : (s.setQvalid v).stim = s.stim := rfl
@[simp] theorem State.setQvalid_swRet (s : State) (v : Bool) : (s.setQvalid v).swRet = s.swRet := rfl
@[simp] theorem State.setQvalid_encRet (s : State) (v : Bool) : (s.setQvalid v).encRet = s.encRet := rfl

@[simp] theorem State.setQprev_cfg (s : State) (v : BitVec 2) : (s.setQprev v).cfg = s.cfg := rfl
@[simp] theorem State.setQprev_ms (s : State) (v : BitVec 2) : (s.setQprev v).ms = s.ms := rfl
@[simp] theorem State.setQprev_tdiv (s : State) (v : BitVec 2) : (s.setQprev v).tdiv = s.tdiv := rfl
@[simp] theorem State.setQprev_pttQ (s : State) (v : BitVec 2) : (s.setQprev v).pttQ = s.pttQ := rfl
@[simp] theorem State.setQprev_tuneQ (s : State) (v : BitVec 2) : (s.setQprev v).tuneQ = s.tuneQ := rfl
@[simp] theorem State.setQprev_knobQ (s : State) (v : BitVec 2) : (s.setQprev v).knobQ = s.knobQ := rfl
@[simp] theorem State.setQprev_knobT0 (s : State) (v : BitVec 2) : (s.setQprev v).knobT0 = s.knobT0 := rfl
@[simp] theorem State.setQprev_seq (s : State) (v : BitVec 2) : (s.setQprev v).seq = s.seq := rfl
@[simp] theorem State.setQprev_deadline (s : State) (v : BitVec 2) : (s.setQprev v).deadline = s.deadline := rfl
@[simp] theorem State.setQprev_mute (s : State) (v : BitVec 2) : (s.setQprev v).mute = s.mute := rfl
@[simp] theorem State.setQprev_pttOut (s : State) (v : BitVec 2) : (s.setQprev v).pttOut = s.pttOut := rfl
@[simp] theorem State.setQprev_tuneOut (s : State) (v : BitVec 2) : (s.setQprev v).tuneOut = s.tuneOut := rfl
@[simp] theorem State.setQprev_swq (s : State) (v : BitVec 2) : (s.setQprev v).swq = s.swq := rfl
@[simp] theorem State.setQprev_swErr (s : State) (v : BitVec 2) : (s.setQprev v).swErr = s.swErr := rfl
@[simp] theorem State.setQprev_qvalid (s : State) (v : BitVec 2) : (s.setQprev v).qvalid = s.qvalid := rfl
@[simp] theorem State.setQprev_qprev (s : State) (v : BitVec 2) : (s.setQprev v).qprev = v := rfl
@[simp] theorem State.setQprev_cnt (s : State) (v : BitVec 2) : (s.setQprev v).cnt = s.cnt := rfl
@[simp] theorem State.setQprev_encq (s : State) (v : BitVec 2) : (s.setQprev v).encq = s.encq := rfl
@[simp] theorem State.setQprev_encErr (s : State) (v : BitVec 2) : (s.setQprev v).encErr = s.encErr := rfl
@[simp] theorem State.setQprev_stim (s : State) (v : BitVec 2) : (s.setQprev v).stim = s.stim := rfl
@[simp] theorem State.setQprev_swRet (s : State) (v : BitVec 2) : (s.setQprev v).swRet = s.swRet := rfl
@[simp] theorem State.setQprev_encRet (s : State) (v : BitVec 2) : (s.setQprev v).encRet = s.encRet := rfl

@[simp] theorem State.setCnt_cfg (s : State) (v : Int) : (s.setCnt v).cfg = s.cfg := rfl
@[simp] theorem State.setCnt_ms (s : State) (v : Int) : (s.setCnt v).ms = s.ms := rfl
@[simp] theorem State.setCnt_tdiv (s : State) (v : Int) : (s.setCnt v).tdiv = s.tdiv := rfl
@[simp] theorem State.setCnt_pttQ (s : State) (v : Int) : (s.setCnt v).pttQ = s.pttQ := rfl
@[simp] theorem State.setCnt_tuneQ (s : State) (v : Int) : (s.setCnt v).tuneQ = s.tuneQ := rfl
@[simp] theorem State.setCnt_knobQ (s : State) (v : Int) : (s.setCnt v).knobQ = s.knobQ := rfl
@[simp] theorem State.setCnt_knobT0 (s : State) (v : Int) : (s.setCnt v).knobT0 = s.knobT0 := rfl
@[simp] theorem State.setCnt_seq (s : State) (v : Int) : (s.setCnt v).seq = s.seq := rfl
@[simp] theorem State.setCnt_deadline (s : State) (v : Int) : (s.setCnt v).deadline = s.deadline := rfl
@[simp] theorem State.setCnt_mute (s : State) (v : Int) : (s.setCnt v).mute = s.mute := rfl
@[simp] theorem State.setCnt_pttOut (s : State) (v : Int) : (s.setCnt v).pttOut = s.pttOut := rfl
@[simp] theorem State.setCnt_tuneOut (s : State) (v : Int) : (s.setCnt v).tuneOut = s.tuneOut := rfl
@[simp] theorem State.setCnt_swq (s : State) (v : Int) : (s.setCnt v).swq = s.swq := rfl
@[simp] theorem State.setCnt_swErr (s : State) (v : Int) : (s.setCnt v).swErr = s.swErr := rfl
@[simp] theorem State.setCnt_qvalid (s : State) (v : Int) : (s.setCnt v).qvalid = s.qvalid := rfl
@[simp] theorem State.setCnt_qprev (s : State) (v : Int) : (s.setCnt v).qprev = s.qprev := rfl
@[simp] theorem State.setCnt_cnt (s : State) (v : Int) : (s.setCnt v).cnt = v := rfl
@[simp] theorem State.setCnt_encq (s : State) (v : Int) : (s.setCnt v).encq = s.encq := rfl
@[simp] theorem State.setCnt_encErr (s : State) (v : Int) : (s.setCnt v).encErr = s.encErr := rfl
@[simp] theorem State.setCnt_stim (s : State) (v : Int) : (s.setCnt v).stim = s.stim := rfl
@[simp] theorem State.setCnt_swRet (s : State) (v : Int) : (s.setCnt v).swRet = s.swRet := rfl
@[simp] theorem State.setCnt_encRet (s : State) (v : Int) : (s.setCnt v).encRet = s.encRet := rfl

@[simp] theorem State.setEnc_cfg (s : State) (q : List Pulse) (e : Nat) : (s.setEnc q e).cfg = s.cfg := rfl
@[simp] theorem State.setEnc_ms (s : State) (q : List Pulse) (e : Nat) : (s.setEnc q e).ms = s.ms := rfl
@[simp] theorem State.setEnc_tdiv (s : State) (q : List Pulse) (e : Nat) : (s.setEnc q e).tdiv = s.tdiv := rfl
@[simp] theorem State.setEnc_pttQ (s : State) (q : List Pulse) (e : Nat) : (s.setEnc q e).pttQ = s.pttQ := rfl
@[simp] theorem State.setEnc_tuneQ (s : State) (q : List Pulse) (e : Nat) : (s.setEnc q e).tuneQ = s.tuneQ := rfl
@[simp] theorem State.setEnc_knobQ (s : State) (q : List Pulse) (e : Nat) : (s.setEnc q e).knobQ = s.knobQ := rfl
@[simp] theorem State.setEnc_knobT0 (s : State) (q : List Pulse) (e : Nat) : (s.setEnc q e).knobT0 = s.knobT0 := rfl
@[simp] theorem State.setEnc_seq (s : State) (q : List Pulse) (e : Nat) : (s.setEnc q e).seq = s.seq := rfl
@[simp] theorem State.setEnc_deadline (s : State) (q : List Pulse) (e : Nat) : (s.setEnc q e).deadline = s.deadline := rfl
@[simp] theorem State.setEnc_mute (s : State) (q : List Pulse) (e : Nat) : (s.setEnc q e).mute = s.mute := rfl
@[simp] theorem State.setEnc_pttOut (s : State) (q : List Pulse) (e : Nat) : (s.setEnc q e).pttOut = s.pttOut := rfl
@[simp] theorem State.setEnc_tuneOut (s : State) (q : List Pulse) (e : Nat) : (s.setEnc q e).tuneOut = s.tuneOut := rfl
@[simp] theorem State.setEnc_swq (s : State) (q : List Pulse) (e : Nat) : (s.setEnc q e).swq = s.swq := rfl
@[simp] theorem State.setEnc_swErr (s : State) (q : List Pulse) (e : Nat) : (s.setEnc q e).swErr = s.swErr := rfl
@[simp] theorem State.setEnc_qvalid (s : State) (q : List Pulse) (e : Nat) : (s.setEnc q e).qvalid = s.qvalid := rfl
@[simp] theorem State.setEnc_qprev (s : State) (q : List Pulse) (e : Nat) : (s.setEnc q e).qprev = s.qprev := rfl
@[simp] theorem State.setEnc_cnt (s : State) (q : List Pulse) (e : Nat) : (s.setEnc q e).cnt = s.cnt := rfl
@[simp] theorem State.setEnc_encq (s : State) (q : List Pulse) (e : Nat) : (s.setEnc q e).encq = q := rfl
@[simp] theorem State.setEnc_encErr (s : State) (q : List Pulse) (e : Nat) : (s.setEnc q e).encErr = e := rfl
@[simp] theorem State.setEnc_stim (s : State) (q : List Pulse) (e : Nat) : (s.setEnc q e).stim = s.stim := rfl
@[simp] theorem State.setEnc_swRet (s : State) (q : List Pulse) (e : Nat) : (s.setEnc q e).swRet = s.swRet := rfl
@[simp] theorem State.setEnc_encRet (s : State) (q : List Pulse) (e : Nat) : (s.setEnc q e).encRet = s.encRet := rfl

@[simp] theorem State.setStim_cfg (s : State) (ws : List StimWord) : (s.setStim ws).cfg = s.cfg := rfl
@[simp] theorem State.setStim_ms (s : State) (ws : List StimWord) : (s.setStim ws).ms = s.ms := rfl
@[simp] theorem State.setStim_tdiv (s : State) (ws : List StimWord) : (s.setStim ws).tdiv = s.tdiv := rfl
@[simp] theorem State.setStim_pttQ (s : State) (ws : List StimWord) : (s.setStim ws).pttQ = s.pttQ := rfl
@[simp] theorem State.setStim_tuneQ (s : State) (ws : List StimWord) : (s.setStim ws).tuneQ = s.tuneQ := rfl
@[simp] theorem State.setStim_knobQ (s : State) (ws : List StimWord) : (s.setStim ws).knobQ = s.knobQ := rfl
@[simp] theorem State.setStim_knobT0 (s : State) (ws : List StimWord) : (s.setStim ws).knobT0 = s.knobT0 := rfl
@[simp] theorem State.setStim_seq (s : State) (ws : List StimWord) : (s.setStim ws).seq = s.seq := rfl
@[simp] theorem State.setStim_deadline (s : State) (ws : List StimWord) : (s.setStim ws).deadline = s.deadline := rfl
@[simp] theorem State.setStim_mute (s : State) (ws : List StimWord) : (s.setStim ws).mute = s.mute := rfl
@[simp] theorem State.setStim_pttOut (s : State) (ws : List StimWord) : (s.setStim ws).pttOut = s.pttOut := rfl
@[simp] theorem State.setStim_tuneOut (s : State) (ws : List StimWord) : (s.setStim ws).tuneOut = s.tuneOut := rfl
@[simp] theorem State.setStim_swq (s : State) (ws : List StimWord) : (s.setStim ws).swq = s.swq := rfl
@[simp] theorem State.setStim_swErr (s : State) (ws : List StimWord) : (s.setStim ws).swErr = s.swErr := rfl
@[simp] theorem State.setStim_qvalid (s : State) (ws : List StimWord) : (s.setStim ws).qvalid = s.qvalid := rfl
@[simp] theorem State.setStim_qprev (s : State) (ws : List StimWord) : (s.setStim ws).qprev = s.qprev := rfl
@[simp] theorem State.setStim_cnt (s : State) (ws : List StimWord) : (s.setStim ws).cnt = s.cnt := rfl
@[simp] theorem State.setStim_encq (s : State) (ws : List StimWord) : (s.setStim ws).encq = s.encq := rfl
@[simp] theorem State.setStim_encErr (s : State) (ws : List StimWord) : (s.setStim ws).encErr = s.encErr := rfl
@[simp] theorem State.setStim_stim (s : State) (ws : List StimWord) : (s.setStim ws).stim = ws := rfl
@[simp] theorem State.setStim_swRet (s : State) (ws : List StimWord) : (s.setStim ws).swRet = s.swRet := rfl
@[simp] theorem State.setStim_encRet (s : State) (ws : List StimWord) : (s.setStim ws).encRet = s.encRet := rfl

@[simp] theorem State.setSwRet_cfg (s : State) (r : Bool × BitVec 4) : (s.setSwRet r).cfg = s.cfg := rfl
@[simp] theorem State.setSwRet_ms (s : State) (r : Bool × BitVec 4) : (s.setSwRet r).ms = s.ms := rfl
@[simp] theorem State.setSwRet_tdiv (s : State) (r : Bool × BitVec 4) : (s.setSwRet r).tdiv = s.tdiv := rfl
@[simp] theorem State.setSwRet_pttQ (s : State) (r : Bool × BitVec 4) : (s.setSwRet r).pttQ = s.pttQ := rfl
@[simp] theorem State.setSwRet_tuneQ (s : State) (r : Bool × BitVec 4) : (s.setSwRet r).tuneQ = s.tuneQ := rfl
@[simp] theorem State.setSwRet_knobQ (s : State) (r : Bool × BitVec 4) : (s.setSwRet r).knobQ = s.knobQ := rfl
@[simp] theorem State.setSwRet_knobT0 (s : State) (r : Bool × BitVec 4) : (s.setSwRet r).knobT0 = s.knobT0 := rfl
@[simp] theorem State.setSwRet_seq (s : State) (r : Bool × BitVec 4) : (s.setSwRet r).seq = s.seq := rfl
@[simp] theorem State.setSwRet_deadline (s : State) (r : Bool × BitVec 4) : (s.setSwRet r).deadline = s.deadline := rfl
@[simp] theorem State.setSwRet_mute (s : State) (r : Bool × BitVec 4) : (s.setSwRet r).mute = s.mute := rfl
@[simp] theorem State.setSwRet_pttOut (s : State) (r : Bool × BitVec 4) : (s.setSwRet r).pttOut = s.pttOut := rfl
@[simp] theorem State.setSwRet_tuneOut (s : State) (r : Bool × BitVec 4) : (s.setSwRet r).tuneOut = s.tuneOut := rfl
@[simp] theorem State.setSwRet_swq (s : State) (r : Bool × BitVec 4) : (s.setSwRet r).swq = s.swq := rfl
@[simp] theorem State.setSwRet_swErr (s : State) (r : Bool × BitVec 4) : (s.setSwRet r).swErr = s.swErr := rfl
@[simp] theorem State.setSwRet_qvalid (s : State) (r : Bool × BitVec 4) : (s.setSwRet r).qvalid = s.qvalid := rfl
@[simp] theorem State.setSwRet_qprev (s : State) (r : Bool × BitVec 4) : (s.setSwRet r).qprev = s.qprev := rfl
@[simp] theorem State.setSwRet_cnt (s : State) (r : Bool × BitVec 4) : (s.setSwRet r).cnt = s.cnt := rfl
@[simp] theorem State.setSwRet_encq (s : State) (r : Bool × BitVec 4) : (s.setSwRet r).encq = s.encq := rfl
@[simp] theorem State.setSwRet_encErr (s : State) (r : Bool × BitVec 4) : (s.setSwRet r).encErr = s.encErr := rfl
@[simp] theorem State.setSwRet_stim (s : State) (r : Bool × BitVec 4) : (s.setSwRet r).stim = s.stim := rfl
@[simp] theorem State.setSwRet_swRet (s : State) (r : Bool × BitVec 4) : (s.setSwRet r).swRet = some r := rfl
@[simp] theorem State.setSwRet_encRet (s : State) (r : Bool × BitVec 4) : (s.setSwRet r).encRet = s.encRet := rfl

@[simp] theorem State.setEncRet_cfg (s : State) (r : Bool × BitVec 2) : (s.setEncRet r).cfg = s.cfg := rfl
@[simp] theorem State.setEncRet_ms (s : State) (r : Bool × BitVec 2) : (s.setEncRet r).ms = s.ms := rfl
@[simp] theorem State.setEncRet_tdiv (s : State) (r : Bool × BitVec 2) : (s.setEncRet r).tdiv = s.tdiv := rfl
@[simp] theorem State.setEncRet_pttQ (s : State) (r : Bool × BitVec 2) : (s.setEncRet r).pttQ = s.pttQ := rfl
@[simp] theorem State.setEncRet_tuneQ (s : State) (r : Bool × BitVec 2) : (s.setEncRet r).tuneQ = s.tuneQ := rfl
@[simp] theorem State.setEncRet_knobQ (s : State) (r : Bool × BitVec 2) : (s.setEncRet r).knobQ = s.knobQ := rfl
@[simp] theorem State.setEncRet_knobT0 (s : State) (r : Bool × BitVec 2) : (s.setEncRet r).knobT0 = s.knobT0 := rfl
@[simp] theorem State.setEncRet_seq (s : State) (r : Bool × BitVec 2) : (s.setEncRet r).seq = s.seq := rfl
@[simp] theorem State.setEncRet_deadline (s : State) (r : Bool × BitVec 2) : (s.setEncRet r).deadline = s.deadline := rfl
@[simp] theorem State.setEncRet_mute (s : State) (r : Bool × BitVec 2) : (s.setEncRet r).mute = s.mute := rfl
@[simp] theorem State.setEncRet_pttOut (s : State) (r : Bool × BitVec 2) : (s.setEncRet r).pttOut = s.pttOut := rfl
@[simp] theorem State.setEncRet_tuneOut (s : State) (r : Bool × BitVec 2) : (s.setEncRet r).tuneOut = s.tuneOut := rfl
@[simp] theorem State.setEncRet_swq (s : State) (r : Bool × BitVec 2) : (s.setEncRet r).swq = s.swq := rfl
@[simp] theorem State.setEncRet_swErr (s : State) (r : Bool × BitVec 2) : (s.setEncRet r).swErr = s.swErr := rfl
@[simp] theorem State.setEncRet_qvalid (s : State) (r : Bool × BitVec 2) : (s.setEncRet r).qvalid = s.qvalid := rfl
@[simp] theorem State.setEncRet_qprev (s : State) (r : Bool × BitVec 2) : (s.setEncRet r).qprev = s.qprev := rfl
@[simp] theorem State.setEncRet_cnt (s : State) (r : Bool × BitVec 2) : (s.setEncRet r).cnt = s.cnt := rfl
@[simp] theorem State.setEncRet_encq (s : State) (r : Bool × BitVec 2) : (s.setEncRet r).encq = s.encq := rfl
@[simp] theorem State.setEncRet_encErr (s : State) (r : Bool × BitVec 2) : (s.setEncRet r).encErr = s.encErr := rfl
@[simp] theorem State.setEncRet_stim (s : State) (r : Bool × BitVec 2) : (s.setEncRet r).stim = s.stim := rfl
@[simp] theorem State.setEncRet_swRet (s : State) (r : Bool × BitVec 2) : (s.setEncRet r).swRet = s.swRet := rfl
@[simp] theorem State.setEncRet_encRet (s : State) (r : Bool × BitVec 2) : (s.setEncRet r).encRet = some r := rfl

end Sys2Proof.Machine
end

