-- ==== Sys2Proof/Laws/Ops.lean ====
section
/-! SUPPORT. What each shared operation can do, said once: the spec lemmas of `Push`, `Pop` and the time
arithmetic, and the frame of every operation field by field. -/
namespace Sys2Proof.Machine

/-- With room, `Push` appends at the tail and counts nothing. -/
theorem push_of_room {α : Type} {c : Params} {depth err : Nat} {q : List α} {v : α} (h : q.length < depth) :
    push c depth q err v = (q ++ [v], err) := by simp [push, h]

/-- On a full queue, `Push` keeps the queue and counts. -/
theorem push_of_full {α : Type} {c : Params} {depth err : Nat} {q : List α} {v : α} (h : depth ≤ q.length) :
    push c depth q err v = (q, errInc c err) := by simp [push, Nat.not_lt.mpr h]

/-- Everything `Push` can do. -/
theorem push_cases {α : Type} (c : Params) (depth : Nat) (q : List α) (err : Nat) (v : α) :
    (q.length < depth ∧ push c depth q err v = (q ++ [v], err)) ∨
    (depth ≤ q.length ∧ push c depth q err v = (q, errInc c err)) := by
  rcases Nat.lt_or_ge q.length depth with h | h
  · exact .inl ⟨h, push_of_room h⟩
  · exact .inr ⟨h, push_of_full h⟩

/-- `Push` never outgrows the capacity. -/
theorem push_length_le {α : Type} {c : Params} {depth err : Nat} {q : List α} {v : α} (h : q.length ≤ depth) :
    (push c depth q err v).1.length ≤ depth := by
  rcases push_cases c depth q err v with ⟨h1, h2⟩ | ⟨_, h2⟩ <;> simp [h2] <;> omega

/-- `Push` keeps every item that was queued, in place. -/
theorem push_keeps {α : Type} (c : Params) (depth : Nat) (q : List α) (err : Nat) (v : α) :
    q <+: (push c depth q err v).1 := by
  rcases push_cases c depth q err v with ⟨_, h2⟩ | ⟨_, h2⟩ <;> simp [h2]

/-- The error counter stays below `2^ERRW`. -/
theorem push_err_lt {α : Type} {c : Params} {depth err : Nat} {q : List α} {v : α} (h : err < 2 ^ c.errw) :
    (push c depth q err v).2 < 2 ^ c.errw := by
  rcases push_cases c depth q err v with ⟨_, h2⟩ | ⟨_, h2⟩
  · simpa [h2] using h
  · simpa [h2, errInc] using Nat.mod_lt _ (Nat.two_pow_pos _)

/-- Everything `Pop` can do. -/
theorem pop_cases {α : Type} {n : Nat} (code : α → BitVec n) (q : List α) :
    (q = [] ∧ pop code q = ((false, 0), [])) ∨
    (∃ v rest, q = v :: rest ∧ pop code q = ((true, code v), rest)) := by
  cases q with
  | nil => exact .inl ⟨rfl, rfl⟩
  | cons v rest => exact .inr ⟨v, rest, rfl, rfl⟩

/-- The queue after a `Pop` is the queue without its head. -/
theorem pop_rest {α : Type} {n : Nat} (code : α → BitVec n) (q : List α) : (pop code q).2 = q.tail := by
  cases q <;> rfl

/-- A sum of times stays below `2^W`. -/
theorem tadd_lt (c : Params) (a k : Time) : tadd c a k < 2 ^ c.w := Nat.mod_lt _ (Nat.two_pow_pos _)

/-- Arming twice is arming once with the sum. -/
theorem tadd_tadd (c : Params) (a j k : Time) : tadd c (tadd c a j) k = tadd c a (j + k) := by
  simp [tadd, Nat.add_comm, Nat.add_left_comm]

/-- `tdiff` is the balanced remainder of the difference. -/
theorem tdiff_eq_of_mod {c : Params} {a b : Time} {d : Int} (hw : 1 ≤ c.w)
    (hd : ((a : Int) - (b : Int)) % ((2 ^ c.w : Nat) : Int) = d % ((2 ^ c.w : Nat) : Int))
    (h1 : -((2 ^ (c.w - 1) : Nat) : Int) ≤ d) (h2 : d < ((2 ^ (c.w - 1) : Nat) : Int)) : tdiff c a b = d := by
  have h3 : ((2 ^ c.w : Nat) : Int) = 2 * ((2 ^ (c.w - 1) : Nat) : Int) := by
    obtain ⟨n, hn⟩ : ∃ n, c.w = n + 1 := ⟨c.w - 1, by omega⟩
    rw [hn]
    push_cast [Nat.pow_succ, Nat.add_sub_cancel]
    ring
  simp only [tdiff, hd]
  generalize ((2 ^ (c.w - 1) : Nat) : Int) = m at *
  rw [h3]
  rcases lt_or_ge d 0 with hneg | hpos
  · have h4 : d % (2 * m) = d + 2 * m := by
      rw [← Int.add_emod_right, Int.emod_eq_of_lt (by omega) (by omega)]
    rw [h4, if_neg (by omega)]
    omega
  · have h4 : d % (2 * m) = d := Int.emod_eq_of_lt hpos (by omega)
    rw [h4, if_pos h2]

/-- The true distance between two readings of the clock, `k` counts apart. -/
theorem tdiff_tadd_tadd {c : Params} {n j k : Time} (hw : 1 ≤ c.w)
    (h1 : -((2 ^ (c.w - 1) : Nat) : Int) ≤ (j : Int) - k) (h2 : (j : Int) - k < ((2 ^ (c.w - 1) : Nat) : Int)) :
    tdiff c (tadd c n j) (tadd c n k) = (j : Int) - k := by
  refine tdiff_eq_of_mod hw ?_ h1 h2
  simp only [tadd]
  push_cast
  rw [← Int.sub_emod]
  congr 1
  ring

@[simp] theorem pushSw_cfg (e : SwEvent) (s : State) : (pushSw e s).cfg = s.cfg := rfl
@[simp] theorem pushSw_ms (e : SwEvent) (s : State) : (pushSw e s).ms = s.ms := rfl
@[simp] theorem pushSw_tdiv (e : SwEvent) (s : State) : (pushSw e s).tdiv = s.tdiv := rfl
@[simp] theorem pushSw_pttQ (e : SwEvent) (s : State) : (pushSw e s).pttQ = s.pttQ := rfl
@[simp] theorem pushSw_tuneQ (e : SwEvent) (s : State) : (pushSw e s).tuneQ = s.tuneQ := rfl
@[simp] theorem pushSw_knobQ (e : SwEvent) (s : State) : (pushSw e s).knobQ = s.knobQ := rfl
@[simp] theorem pushSw_knobT0 (e : SwEvent) (s : State) : (pushSw e s).knobT0 = s.knobT0 := rfl
@[simp] theorem pushSw_seq (e : SwEvent) (s : State) : (pushSw e s).seq = s.seq := rfl
@[simp] theorem pushSw_deadline (e : SwEvent) (s : State) : (pushSw e s).deadline = s.deadline := rfl
@[simp] theorem pushSw_mute (e : SwEvent) (s : State) : (pushSw e s).mute = s.mute := rfl
@[simp] theorem pushSw_pttOut (e : SwEvent) (s : State) : (pushSw e s).pttOut = s.pttOut := rfl
@[simp] theorem pushSw_tuneOut (e : SwEvent) (s : State) : (pushSw e s).tuneOut = s.tuneOut := rfl
@[simp] theorem pushSw_qvalid (e : SwEvent) (s : State) : (pushSw e s).qvalid = s.qvalid := rfl
@[simp] theorem pushSw_qprev (e : SwEvent) (s : State) : (pushSw e s).qprev = s.qprev := rfl
@[simp] theorem pushSw_cnt (e : SwEvent) (s : State) : (pushSw e s).cnt = s.cnt := rfl
@[simp] theorem pushSw_encq (e : SwEvent) (s : State) : (pushSw e s).encq = s.encq := rfl
@[simp] theorem pushSw_encErr (e : SwEvent) (s : State) : (pushSw e s).encErr = s.encErr := rfl
@[simp] theorem pushSw_stim (e : SwEvent) (s : State) : (pushSw e s).stim = s.stim := rfl
@[simp] theorem pushSw_swRet (e : SwEvent) (s : State) : (pushSw e s).swRet = s.swRet := rfl
@[simp] theorem pushSw_encRet (e : SwEvent) (s : State) : (pushSw e s).encRet = s.encRet := rfl

@[simp] theorem pushSw_swq (e : SwEvent) (s : State) :
    (pushSw e s).swq = (push s.cfg s.cfg.swqDepth s.swq s.swErr e).1 := rfl
@[simp] theorem pushSw_swErr (e : SwEvent) (s : State) :
    (pushSw e s).swErr = (push s.cfg s.cfg.swqDepth s.swq s.swErr e).2 := rfl

@[simp] theorem pushEnc_cfg (p : Pulse) (s : State) : (pushEnc p s).cfg = s.cfg := rfl
@[simp] theorem pushEnc_ms (p : Pulse) (s : State) : (pushEnc p s).ms = s.ms := rfl
@[simp] theorem pushEnc_tdiv (p : Pulse) (s : State) : (pushEnc p s).tdiv = s.tdiv := rfl
@[simp] theorem pushEnc_pttQ (p : Pulse) (s : State) : (pushEnc p s).pttQ = s.pttQ := rfl
@[simp] theorem pushEnc_tuneQ (p : Pulse) (s : State) : (pushEnc p s).tuneQ = s.tuneQ := rfl
@[simp] theorem pushEnc_knobQ (p : Pulse) (s : State) : (pushEnc p s).knobQ = s.knobQ := rfl
@[simp] theorem pushEnc_knobT0 (p : Pulse) (s : State) : (pushEnc p s).knobT0 = s.knobT0 := rfl
@[simp] theorem pushEnc_seq (p : Pulse) (s : State) : (pushEnc p s).seq = s.seq := rfl
@[simp] theorem pushEnc_deadline (p : Pulse) (s : State) : (pushEnc p s).deadline = s.deadline := rfl
@[simp] theorem pushEnc_mute (p : Pulse) (s : State) : (pushEnc p s).mute = s.mute := rfl
@[simp] theorem pushEnc_pttOut (p : Pulse) (s : State) : (pushEnc p s).pttOut = s.pttOut := rfl
@[simp] theorem pushEnc_tuneOut (p : Pulse) (s : State) : (pushEnc p s).tuneOut = s.tuneOut := rfl
@[simp] theorem pushEnc_swq (p : Pulse) (s : State) : (pushEnc p s).swq = s.swq := rfl
@[simp] theorem pushEnc_swErr (p : Pulse) (s : State) : (pushEnc p s).swErr = s.swErr := rfl
@[simp] theorem pushEnc_qvalid (p : Pulse) (s : State) : (pushEnc p s).qvalid = s.qvalid := rfl
@[simp] theorem pushEnc_qprev (p : Pulse) (s : State) : (pushEnc p s).qprev = s.qprev := rfl
@[simp] theorem pushEnc_cnt (p : Pulse) (s : State) : (pushEnc p s).cnt = s.cnt := rfl
@[simp] theorem pushEnc_stim (p : Pulse) (s : State) : (pushEnc p s).stim = s.stim := rfl
@[simp] theorem pushEnc_swRet (p : Pulse) (s : State) : (pushEnc p s).swRet = s.swRet := rfl
@[simp] theorem pushEnc_encRet (p : Pulse) (s : State) : (pushEnc p s).encRet = s.encRet := rfl

@[simp] theorem pushEnc_encq (p : Pulse) (s : State) :
    (pushEnc p s).encq = (push s.cfg s.cfg.encqDepth s.encq s.encErr p).1 := rfl
@[simp] theorem pushEnc_encErr (p : Pulse) (s : State) :
    (pushEnc p s).encErr = (push s.cfg s.cfg.encqDepth s.encq s.encErr p).2 := rfl

@[simp] theorem sampleTune_cfg (t : Bool) (s : State) : (sampleTune t s).cfg = s.cfg := by
  unfold sampleTune; split <;> rfl
@[simp] theorem sampleTune_ms (t : Bool) (s : State) : (sampleTune t s).ms = s.ms := by
  unfold sampleTune; split <;> rfl
@[simp] theorem sampleTune_tdiv (t : Bool) (s : State) : (sampleTune t s).tdiv = s.tdiv := by
  unfold sampleTune; split <;> rfl
@[simp] theorem sampleTune_pttQ (t : Bool) (s : State) : (sampleTune t s).pttQ = s.pttQ := by
  unfold sampleTune; split <;> rfl
@[simp] theorem sampleTune_tuneQ (t : Bool) (s : State) : (sampleTune t s).tuneQ = s.tuneQ := by
  unfold sampleTune; split <;> rfl
@[simp] theorem sampleTune_knobQ (t : Bool) (s : State) : (sampleTune t s).knobQ = s.knobQ := by
  unfold sampleTune; split <;> rfl
@[simp] theorem sampleTune_knobT0 (t : Bool) (s : State) : (sampleTune t s).knobT0 = s.knobT0 := by
  unfold sampleTune; split <;> rfl
@[simp] theorem sampleTune_seq (t : Bool) (s : State) : (sampleTune t s).seq = s.seq := by
  unfold sampleTune; split <;> rfl
@[simp] theorem sampleTune_deadline (t : Bool) (s : State) : (sampleTune t s).deadline = s.deadline := by
  unfold sampleTune; split <;> rfl
@[simp] theorem sampleTune_mute (t : Bool) (s : State) : (sampleTune t s).mute = s.mute := by
  unfold sampleTune; split <;> rfl
@[simp] theorem sampleTune_pttOut (t : Bool) (s : State) : (sampleTune t s).pttOut = s.pttOut := by
  unfold sampleTune; split <;> rfl
@[simp] theorem sampleTune_tuneOut (t : Bool) (s : State) : (sampleTune t s).tuneOut = s.tuneOut := by
  unfold sampleTune; split <;> rfl
@[simp] theorem sampleTune_qvalid (t : Bool) (s : State) : (sampleTune t s).qvalid = s.qvalid := by
  unfold sampleTune; split <;> rfl
@[simp] theorem sampleTune_qprev (t : Bool) (s : State) : (sampleTune t s).qprev = s.qprev := by
  unfold sampleTune; split <;> rfl
@[simp] theorem sampleTune_cnt (t : Bool) (s : State) : (sampleTune t s).cnt = s.cnt := by
  unfold sampleTune; split <;> rfl
@[simp] theorem sampleTune_encq (t : Bool) (s : State) : (sampleTune t s).encq = s.encq := by
  unfold sampleTune; split <;> rfl
@[simp] theorem sampleTune_encErr (t : Bool) (s : State) : (sampleTune t s).encErr = s.encErr := by
  unfold sampleTune; split <;> rfl
@[simp] theorem sampleTune_stim (t : Bool) (s : State) : (sampleTune t s).stim = s.stim := by
  unfold sampleTune; split <;> rfl
@[simp] theorem sampleTune_swRet (t : Bool) (s : State) : (sampleTune t s).swRet = s.swRet := by
  unfold sampleTune; split <;> rfl
@[simp] theorem sampleTune_encRet (t : Bool) (s : State) : (sampleTune t s).encRet = s.encRet := by
  unfold sampleTune; split <;> rfl

@[simp] theorem samplePtt_cfg (p : Bool) (s : State) : (samplePtt p s).cfg = s.cfg := by
  unfold samplePtt; split <;> rfl
@[simp] theorem samplePtt_ms (p : Bool) (s : State) : (samplePtt p s).ms = s.ms := by
  unfold samplePtt; split <;> rfl
@[simp] theorem samplePtt_tdiv (p : Bool) (s : State) : (samplePtt p s).tdiv = s.tdiv := by
  unfold samplePtt; split <;> rfl
@[simp] theorem samplePtt_pttQ (p : Bool) (s : State) : (samplePtt p s).pttQ = s.pttQ := by
  unfold samplePtt; split <;> rfl
@[simp] theorem samplePtt_tuneQ (p : Bool) (s : State) : (samplePtt p s).tuneQ = s.tuneQ := by
  unfold samplePtt; split <;> rfl
@[simp] theorem samplePtt_knobQ (p : Bool) (s : State) : (samplePtt p s).knobQ = s.knobQ := by
  unfold samplePtt; split <;> rfl
@[simp] theorem samplePtt_knobT0 (p : Bool) (s : State) : (samplePtt p s).knobT0 = s.knobT0 := by
  unfold samplePtt; split <;> rfl
@[simp] theorem samplePtt_seq (p : Bool) (s : State) : (samplePtt p s).seq = s.seq := by
  unfold samplePtt; split <;> rfl
@[simp] theorem samplePtt_deadline (p : Bool) (s : State) : (samplePtt p s).deadline = s.deadline := by
  unfold samplePtt; split <;> rfl
@[simp] theorem samplePtt_mute (p : Bool) (s : State) : (samplePtt p s).mute = s.mute := by
  unfold samplePtt; split <;> rfl
@[simp] theorem samplePtt_pttOut (p : Bool) (s : State) : (samplePtt p s).pttOut = s.pttOut := by
  unfold samplePtt; split <;> rfl
@[simp] theorem samplePtt_tuneOut (p : Bool) (s : State) : (samplePtt p s).tuneOut = s.tuneOut := by
  unfold samplePtt; split <;> rfl
@[simp] theorem samplePtt_qvalid (p : Bool) (s : State) : (samplePtt p s).qvalid = s.qvalid := by
  unfold samplePtt; split <;> rfl
@[simp] theorem samplePtt_qprev (p : Bool) (s : State) : (samplePtt p s).qprev = s.qprev := by
  unfold samplePtt; split <;> rfl
@[simp] theorem samplePtt_cnt (p : Bool) (s : State) : (samplePtt p s).cnt = s.cnt := by
  unfold samplePtt; split <;> rfl
@[simp] theorem samplePtt_encq (p : Bool) (s : State) : (samplePtt p s).encq = s.encq := by
  unfold samplePtt; split <;> rfl
@[simp] theorem samplePtt_encErr (p : Bool) (s : State) : (samplePtt p s).encErr = s.encErr := by
  unfold samplePtt; split <;> rfl
@[simp] theorem samplePtt_stim (p : Bool) (s : State) : (samplePtt p s).stim = s.stim := by
  unfold samplePtt; split <;> rfl
@[simp] theorem samplePtt_swRet (p : Bool) (s : State) : (samplePtt p s).swRet = s.swRet := by
  unfold samplePtt; split <;> rfl
@[simp] theorem samplePtt_encRet (p : Bool) (s : State) : (samplePtt p s).encRet = s.encRet := by
  unfold samplePtt; split <;> rfl

@[simp] theorem sampleKnob_cfg (k : Bool) (s : State) : (sampleKnob k s).cfg = s.cfg := by
  unfold sampleKnob; split <;> (try split) <;> rfl
@[simp] theorem sampleKnob_ms (k : Bool) (s : State) : (sampleKnob k s).ms = s.ms := by
  unfold sampleKnob; split <;> (try split) <;> rfl
@[simp] theorem sampleKnob_tdiv (k : Bool) (s : State) : (sampleKnob k s).tdiv = s.tdiv := by
  unfold sampleKnob; split <;> (try split) <;> rfl
@[simp] theorem sampleKnob_pttQ (k : Bool) (s : State) : (sampleKnob k s).pttQ = s.pttQ := by
  unfold sampleKnob; split <;> (try split) <;> rfl
@[simp] theorem sampleKnob_tuneQ (k : Bool) (s : State) : (sampleKnob k s).tuneQ = s.tuneQ := by
  unfold sampleKnob; split <;> (try split) <;> rfl
@[simp] theorem sampleKnob_knobQ (k : Bool) (s : State) : (sampleKnob k s).knobQ = s.knobQ := by
  unfold sampleKnob; split <;> (try split) <;> rfl
@[simp] theorem sampleKnob_seq (k : Bool) (s : State) : (sampleKnob k s).seq = s.seq := by
  unfold sampleKnob; split <;> (try split) <;> rfl
@[simp] theorem sampleKnob_deadline (k : Bool) (s : State) : (sampleKnob k s).deadline = s.deadline := by
  unfold sampleKnob; split <;> (try split) <;> rfl
@[simp] theorem sampleKnob_mute (k : Bool) (s : State) : (sampleKnob k s).mute = s.mute := by
  unfold sampleKnob; split <;> (try split) <;> rfl
@[simp] theorem sampleKnob_pttOut (k : Bool) (s : State) : (sampleKnob k s).pttOut = s.pttOut := by
  unfold sampleKnob; split <;> (try split) <;> rfl
@[simp] theorem sampleKnob_tuneOut (k : Bool) (s : State) : (sampleKnob k s).tuneOut = s.tuneOut := by
  unfold sampleKnob; split <;> (try split) <;> rfl
@[simp] theorem sampleKnob_qvalid (k : Bool) (s : State) : (sampleKnob k s).qvalid = s.qvalid := by
  unfold sampleKnob; split <;> (try split) <;> rfl
@[simp] theorem sampleKnob_qprev (k : Bool) (s : State) : (sampleKnob k s).qprev = s.qprev := by
  unfold sampleKnob; split <;> (try split) <;> rfl
@[simp] theorem sampleKnob_cnt (k : Bool) (s : State) : (sampleKnob k s).cnt = s.cnt := by
  unfold sampleKnob; split <;> (try split) <;> rfl
@[simp] theorem sampleKnob_encq (k : Bool) (s : State) : (sampleKnob k s).encq = s.encq := by
  unfold sampleKnob; split <;> (try split) <;> rfl
@[simp] theorem sampleKnob_encErr (k : Bool) (s : State) : (sampleKnob k s).encErr = s.encErr := by
  unfold sampleKnob; split <;> (try split) <;> rfl
@[simp] theorem sampleKnob_stim (k : Bool) (s : State) : (sampleKnob k s).stim = s.stim := by
  unfold sampleKnob; split <;> (try split) <;> rfl
@[simp] theorem sampleKnob_swRet (k : Bool) (s : State) : (sampleKnob k s).swRet = s.swRet := by
  unfold sampleKnob; split <;> (try split) <;> rfl
@[simp] theorem sampleKnob_encRet (k : Bool) (s : State) : (sampleKnob k s).encRet = s.encRet := by
  unfold sampleKnob; split <;> (try split) <;> rfl

@[simp] theorem samplerStep_cfg (p t k : Bool) (s : State) : (samplerStep p t k s).cfg = s.cfg := by
  simp [samplerStep]
@[simp] theorem samplerStep_ms (p t k : Bool) (s : State) : (samplerStep p t k s).ms = s.ms := by
  simp [samplerStep]
@[simp] theorem samplerStep_tdiv (p t k : Bool) (s : State) : (samplerStep p t k s).tdiv = s.tdiv := by
  simp [samplerStep]
@[simp] theorem samplerStep_seq (p t k : Bool) (s : State) : (samplerStep p t k s).seq = s.seq := by
  simp [samplerStep]
@[simp] theorem samplerStep_deadline (p t k : Bool) (s : State) : (samplerStep p t k s).deadline = s.deadline := by
  simp [samplerStep]
@[simp] theorem samplerStep_mute (p t k : Bool) (s : State) : (samplerStep p t k s).mute = s.mute := by
  simp [samplerStep]
@[simp] theorem samplerStep_pttOut (p t k : Bool) (s : State) : (samplerStep p t k s).pttOut = s.pttOut := by
  simp [samplerStep]
@[simp] theorem samplerStep_tuneOut (p t k : Bool) (s : State) : (samplerStep p t k s).tuneOut = s.tuneOut := by
  simp [samplerStep]
@[simp] theorem samplerStep_qvalid (p t k : Bool) (s : State) : (samplerStep p t k s).qvalid = s.qvalid := by
  simp [samplerStep]
@[simp] theorem samplerStep_qprev (p t k : Bool) (s : State) : (samplerStep p t k s).qprev = s.qprev := by
  simp [samplerStep]
@[simp] theorem samplerStep_cnt (p t k : Bool) (s : State) : (samplerStep p t k s).cnt = s.cnt := by
  simp [samplerStep]
@[simp] theorem samplerStep_encq (p t k : Bool) (s : State) : (samplerStep p t k s).encq = s.encq := by
  simp [samplerStep]
@[simp] theorem samplerStep_encErr (p t k : Bool) (s : State) : (samplerStep p t k s).encErr = s.encErr := by
  simp [samplerStep]
@[simp] theorem samplerStep_stim (p t k : Bool) (s : State) : (samplerStep p t k s).stim = s.stim := by
  simp [samplerStep]
@[simp] theorem samplerStep_swRet (p t k : Bool) (s : State) : (samplerStep p t k s).swRet = s.swRet := by
  simp [samplerStep]
@[simp] theorem samplerStep_encRet (p t k : Bool) (s : State) : (samplerStep p t k s).encRet = s.encRet := by
  simp [samplerStep]

@[simp] theorem samplerStep_pttQ (p t k : Bool) (s : State) : (samplerStep p t k s).pttQ = p := rfl
@[simp] theorem samplerStep_tuneQ (p t k : Bool) (s : State) : (samplerStep p t k s).tuneQ = t := rfl
@[simp] theorem samplerStep_knobQ (p t k : Bool) (s : State) : (samplerStep p t k s).knobQ = k := rfl

@[simp] theorem seqIdleKey_cfg (s : State) : (seqIdleKey s).cfg = s.cfg := by
  simp [seqIdleKey]
@[simp] theorem seqIdleKey_ms (s : State) : (seqIdleKey s).ms = s.ms := by
  simp [seqIdleKey]
@[simp] theorem seqIdleKey_tdiv (s : State) : (seqIdleKey s).tdiv = s.tdiv := by
  simp [seqIdleKey]
@[simp] theorem seqIdleKey_pttQ (s : State) : (seqIdleKey s).pttQ = s.pttQ := by
  simp [seqIdleKey]
@[simp] theorem seqIdleKey_tuneQ (s : State) : (seqIdleKey s).tuneQ = s.tuneQ := by
  simp [seqIdleKey]
@[simp] theorem seqIdleKey_knobQ (s : State) : (seqIdleKey s).knobQ = s.knobQ := by
  simp [seqIdleKey]
@[simp] theorem seqIdleKey_knobT0 (s : State) : (seqIdleKey s).knobT0 = s.knobT0 := by
  simp [seqIdleKey]
@[simp] theorem seqIdleKey_qvalid (s : State) : (seqIdleKey s).qvalid = s.qvalid := by
  simp [seqIdleKey]
@[simp] theorem seqIdleKey_qprev (s : State) : (seqIdleKey s).qprev = s.qprev := by
  simp [seqIdleKey]
@[simp] theorem seqIdleKey_cnt (s : State) : (seqIdleKey s).cnt = s.cnt := by
  simp [seqIdleKey]
@[simp] theorem seqIdleKey_encq (s : State) : (seqIdleKey s).encq = s.encq := by
  simp [seqIdleKey]
@[simp] theorem seqIdleKey_encErr (s : State) : (seqIdleKey s).encErr = s.encErr := by
  simp [seqIdleKey]
@[simp] theorem seqIdleKey_stim (s : State) : (seqIdleKey s).stim = s.stim := by
  simp [seqIdleKey]
@[simp] theorem seqIdleKey_swRet (s : State) : (seqIdleKey s).swRet = s.swRet := by
  simp [seqIdleKey]
@[simp] theorem seqIdleKey_encRet (s : State) : (seqIdleKey s).encRet = s.encRet := by
  simp [seqIdleKey]

@[simp] theorem seqKeywaitAbort_cfg (s : State) : (seqKeywaitAbort s).cfg = s.cfg := by
  simp [seqKeywaitAbort]
@[simp] theorem seqKeywaitAbort_ms (s : State) : (seqKeywaitAbort s).ms = s.ms := by
  simp [seqKeywaitAbort]
@[simp] theorem seqKeywaitAbort_tdiv (s : State) : (seqKeywaitAbort s).tdiv = s.tdiv := by
  simp [seqKeywaitAbort]
@[simp] theorem seqKeywaitAbort_pttQ (s : State) : (seqKeywaitAbort s).pttQ = s.pttQ := by
  simp [seqKeywaitAbort]
@[simp] theorem seqKeywaitAbort_tuneQ (s : State) : (seqKeywaitAbort s).tuneQ = s.tuneQ := by
  simp [seqKeywaitAbort]
@[simp] theorem seqKeywaitAbort_knobQ (s : State) : (seqKeywaitAbort s).knobQ = s.knobQ := by
  simp [seqKeywaitAbort]
@[simp] theorem seqKeywaitAbort_knobT0 (s : State) : (seqKeywaitAbort s).knobT0 = s.knobT0 := by
  simp [seqKeywaitAbort]
@[simp] theorem seqKeywaitAbort_qvalid (s : State) : (seqKeywaitAbort s).qvalid = s.qvalid := by
  simp [seqKeywaitAbort]
@[simp] theorem seqKeywaitAbort_qprev (s : State) : (seqKeywaitAbort s).qprev = s.qprev := by
  simp [seqKeywaitAbort]
@[simp] theorem seqKeywaitAbort_cnt (s : State) : (seqKeywaitAbort s).cnt = s.cnt := by
  simp [seqKeywaitAbort]
@[simp] theorem seqKeywaitAbort_encq (s : State) : (seqKeywaitAbort s).encq = s.encq := by
  simp [seqKeywaitAbort]
@[simp] theorem seqKeywaitAbort_encErr (s : State) : (seqKeywaitAbort s).encErr = s.encErr := by
  simp [seqKeywaitAbort]
@[simp] theorem seqKeywaitAbort_stim (s : State) : (seqKeywaitAbort s).stim = s.stim := by
  simp [seqKeywaitAbort]
@[simp] theorem seqKeywaitAbort_swRet (s : State) : (seqKeywaitAbort s).swRet = s.swRet := by
  simp [seqKeywaitAbort]
@[simp] theorem seqKeywaitAbort_encRet (s : State) : (seqKeywaitAbort s).encRet = s.encRet := by
  simp [seqKeywaitAbort]

@[simp] theorem seqEnterKeyed_cfg (b : Bool) (s : State) : (seqEnterKeyed b s).cfg = s.cfg := by
  simp [seqEnterKeyed]
@[simp] theorem seqEnterKeyed_ms (b : Bool) (s : State) : (seqEnterKeyed b s).ms = s.ms := by
  simp [seqEnterKeyed]
@[simp] theorem seqEnterKeyed_tdiv (b : Bool) (s : State) : (seqEnterKeyed b s).tdiv = s.tdiv := by
  simp [seqEnterKeyed]
@[simp] theorem seqEnterKeyed_pttQ (b : Bool) (s : State) : (seqEnterKeyed b s).pttQ = s.pttQ := by
  simp [seqEnterKeyed]
@[simp] theorem seqEnterKeyed_tuneQ (b : Bool) (s : State) : (seqEnterKeyed b s).tuneQ = s.tuneQ := by
  simp [seqEnterKeyed]
@[simp] theorem seqEnterKeyed_knobQ (b : Bool) (s : State) : (seqEnterKeyed b s).knobQ = s.knobQ := by
  simp [seqEnterKeyed]
@[simp] theorem seqEnterKeyed_knobT0 (b : Bool) (s : State) : (seqEnterKeyed b s).knobT0 = s.knobT0 := by
  simp [seqEnterKeyed]
@[simp] theorem seqEnterKeyed_qvalid (b : Bool) (s : State) : (seqEnterKeyed b s).qvalid = s.qvalid := by
  simp [seqEnterKeyed]
@[simp] theorem seqEnterKeyed_qprev (b : Bool) (s : State) : (seqEnterKeyed b s).qprev = s.qprev := by
  simp [seqEnterKeyed]
@[simp] theorem seqEnterKeyed_cnt (b : Bool) (s : State) : (seqEnterKeyed b s).cnt = s.cnt := by
  simp [seqEnterKeyed]
@[simp] theorem seqEnterKeyed_encq (b : Bool) (s : State) : (seqEnterKeyed b s).encq = s.encq := by
  simp [seqEnterKeyed]
@[simp] theorem seqEnterKeyed_encErr (b : Bool) (s : State) : (seqEnterKeyed b s).encErr = s.encErr := by
  simp [seqEnterKeyed]
@[simp] theorem seqEnterKeyed_stim (b : Bool) (s : State) : (seqEnterKeyed b s).stim = s.stim := by
  simp [seqEnterKeyed]
@[simp] theorem seqEnterKeyed_swRet (b : Bool) (s : State) : (seqEnterKeyed b s).swRet = s.swRet := by
  simp [seqEnterKeyed]
@[simp] theorem seqEnterKeyed_encRet (b : Bool) (s : State) : (seqEnterKeyed b s).encRet = s.encRet := by
  simp [seqEnterKeyed]

@[simp] theorem seqKeyedUnkey_cfg (s : State) : (seqKeyedUnkey s).cfg = s.cfg := by
  simp [seqKeyedUnkey]
@[simp] theorem seqKeyedUnkey_ms (s : State) : (seqKeyedUnkey s).ms = s.ms := by
  simp [seqKeyedUnkey]
@[simp] theorem seqKeyedUnkey_tdiv (s : State) : (seqKeyedUnkey s).tdiv = s.tdiv := by
  simp [seqKeyedUnkey]
@[simp] theorem seqKeyedUnkey_pttQ (s : State) : (seqKeyedUnkey s).pttQ = s.pttQ := by
  simp [seqKeyedUnkey]
@[simp] theorem seqKeyedUnkey_tuneQ (s : State) : (seqKeyedUnkey s).tuneQ = s.tuneQ := by
  simp [seqKeyedUnkey]
@[simp] theorem seqKeyedUnkey_knobQ (s : State) : (seqKeyedUnkey s).knobQ = s.knobQ := by
  simp [seqKeyedUnkey]
@[simp] theorem seqKeyedUnkey_knobT0 (s : State) : (seqKeyedUnkey s).knobT0 = s.knobT0 := by
  simp [seqKeyedUnkey]
@[simp] theorem seqKeyedUnkey_qvalid (s : State) : (seqKeyedUnkey s).qvalid = s.qvalid := by
  simp [seqKeyedUnkey]
@[simp] theorem seqKeyedUnkey_qprev (s : State) : (seqKeyedUnkey s).qprev = s.qprev := by
  simp [seqKeyedUnkey]
@[simp] theorem seqKeyedUnkey_cnt (s : State) : (seqKeyedUnkey s).cnt = s.cnt := by
  simp [seqKeyedUnkey]
@[simp] theorem seqKeyedUnkey_encq (s : State) : (seqKeyedUnkey s).encq = s.encq := by
  simp [seqKeyedUnkey]
@[simp] theorem seqKeyedUnkey_encErr (s : State) : (seqKeyedUnkey s).encErr = s.encErr := by
  simp [seqKeyedUnkey]
@[simp] theorem seqKeyedUnkey_stim (s : State) : (seqKeyedUnkey s).stim = s.stim := by
  simp [seqKeyedUnkey]
@[simp] theorem seqKeyedUnkey_swRet (s : State) : (seqKeyedUnkey s).swRet = s.swRet := by
  simp [seqKeyedUnkey]
@[simp] theorem seqKeyedUnkey_encRet (s : State) : (seqKeyedUnkey s).encRet = s.encRet := by
  simp [seqKeyedUnkey]

@[simp] theorem seqKeyedTimeout_cfg (s : State) : (seqKeyedTimeout s).cfg = s.cfg := by
  simp [seqKeyedTimeout]
@[simp] theorem seqKeyedTimeout_ms (s : State) : (seqKeyedTimeout s).ms = s.ms := by
  simp [seqKeyedTimeout]
@[simp] theorem seqKeyedTimeout_tdiv (s : State) : (seqKeyedTimeout s).tdiv = s.tdiv := by
  simp [seqKeyedTimeout]
@[simp] theorem seqKeyedTimeout_pttQ (s : State) : (seqKeyedTimeout s).pttQ = s.pttQ := by
  simp [seqKeyedTimeout]
@[simp] theorem seqKeyedTimeout_tuneQ (s : State) : (seqKeyedTimeout s).tuneQ = s.tuneQ := by
  simp [seqKeyedTimeout]
@[simp] theorem seqKeyedTimeout_knobQ (s : State) : (seqKeyedTimeout s).knobQ = s.knobQ := by
  simp [seqKeyedTimeout]
@[simp] theorem seqKeyedTimeout_knobT0 (s : State) : (seqKeyedTimeout s).knobT0 = s.knobT0 := by
  simp [seqKeyedTimeout]
@[simp] theorem seqKeyedTimeout_qvalid (s : State) : (seqKeyedTimeout s).qvalid = s.qvalid := by
  simp [seqKeyedTimeout]
@[simp] theorem seqKeyedTimeout_qprev (s : State) : (seqKeyedTimeout s).qprev = s.qprev := by
  simp [seqKeyedTimeout]
@[simp] theorem seqKeyedTimeout_cnt (s : State) : (seqKeyedTimeout s).cnt = s.cnt := by
  simp [seqKeyedTimeout]
@[simp] theorem seqKeyedTimeout_encq (s : State) : (seqKeyedTimeout s).encq = s.encq := by
  simp [seqKeyedTimeout]
@[simp] theorem seqKeyedTimeout_encErr (s : State) : (seqKeyedTimeout s).encErr = s.encErr := by
  simp [seqKeyedTimeout]
@[simp] theorem seqKeyedTimeout_stim (s : State) : (seqKeyedTimeout s).stim = s.stim := by
  simp [seqKeyedTimeout]
@[simp] theorem seqKeyedTimeout_swRet (s : State) : (seqKeyedTimeout s).swRet = s.swRet := by
  simp [seqKeyedTimeout]
@[simp] theorem seqKeyedTimeout_encRet (s : State) : (seqKeyedTimeout s).encRet = s.encRet := by
  simp [seqKeyedTimeout]

@[simp] theorem seqUnmuteDone_cfg (s : State) : (seqUnmuteDone s).cfg = s.cfg := by
  simp [seqUnmuteDone]
@[simp] theorem seqUnmuteDone_ms (s : State) : (seqUnmuteDone s).ms = s.ms := by
  simp [seqUnmuteDone]
@[simp] theorem seqUnmuteDone_tdiv (s : State) : (seqUnmuteDone s).tdiv = s.tdiv := by
  simp [seqUnmuteDone]
@[simp] theorem seqUnmuteDone_pttQ (s : State) : (seqUnmuteDone s).pttQ = s.pttQ := by
  simp [seqUnmuteDone]
@[simp] theorem seqUnmuteDone_tuneQ (s : State) : (seqUnmuteDone s).tuneQ = s.tuneQ := by
  simp [seqUnmuteDone]
@[simp] theorem seqUnmuteDone_knobQ (s : State) : (seqUnmuteDone s).knobQ = s.knobQ := by
  simp [seqUnmuteDone]
@[simp] theorem seqUnmuteDone_knobT0 (s : State) : (seqUnmuteDone s).knobT0 = s.knobT0 := by
  simp [seqUnmuteDone]
@[simp] theorem seqUnmuteDone_qvalid (s : State) : (seqUnmuteDone s).qvalid = s.qvalid := by
  simp [seqUnmuteDone]
@[simp] theorem seqUnmuteDone_qprev (s : State) : (seqUnmuteDone s).qprev = s.qprev := by
  simp [seqUnmuteDone]
@[simp] theorem seqUnmuteDone_cnt (s : State) : (seqUnmuteDone s).cnt = s.cnt := by
  simp [seqUnmuteDone]
@[simp] theorem seqUnmuteDone_encq (s : State) : (seqUnmuteDone s).encq = s.encq := by
  simp [seqUnmuteDone]
@[simp] theorem seqUnmuteDone_encErr (s : State) : (seqUnmuteDone s).encErr = s.encErr := by
  simp [seqUnmuteDone]
@[simp] theorem seqUnmuteDone_stim (s : State) : (seqUnmuteDone s).stim = s.stim := by
  simp [seqUnmuteDone]
@[simp] theorem seqUnmuteDone_swRet (s : State) : (seqUnmuteDone s).swRet = s.swRet := by
  simp [seqUnmuteDone]
@[simp] theorem seqUnmuteDone_encRet (s : State) : (seqUnmuteDone s).encRet = s.encRet := by
  simp [seqUnmuteDone]

@[simp] theorem seqTimedoutExit_cfg (s : State) : (seqTimedoutExit s).cfg = s.cfg := by
  simp [seqTimedoutExit]
@[simp] theorem seqTimedoutExit_ms (s : State) : (seqTimedoutExit s).ms = s.ms := by
  simp [seqTimedoutExit]
@[simp] theorem seqTimedoutExit_tdiv (s : State) : (seqTimedoutExit s).tdiv = s.tdiv := by
  simp [seqTimedoutExit]
@[simp] theorem seqTimedoutExit_pttQ (s : State) : (seqTimedoutExit s).pttQ = s.pttQ := by
  simp [seqTimedoutExit]
@[simp] theorem seqTimedoutExit_tuneQ (s : State) : (seqTimedoutExit s).tuneQ = s.tuneQ := by
  simp [seqTimedoutExit]
@[simp] theorem seqTimedoutExit_knobQ (s : State) : (seqTimedoutExit s).knobQ = s.knobQ := by
  simp [seqTimedoutExit]
@[simp] theorem seqTimedoutExit_knobT0 (s : State) : (seqTimedoutExit s).knobT0 = s.knobT0 := by
  simp [seqTimedoutExit]
@[simp] theorem seqTimedoutExit_qvalid (s : State) : (seqTimedoutExit s).qvalid = s.qvalid := by
  simp [seqTimedoutExit]
@[simp] theorem seqTimedoutExit_qprev (s : State) : (seqTimedoutExit s).qprev = s.qprev := by
  simp [seqTimedoutExit]
@[simp] theorem seqTimedoutExit_cnt (s : State) : (seqTimedoutExit s).cnt = s.cnt := by
  simp [seqTimedoutExit]
@[simp] theorem seqTimedoutExit_encq (s : State) : (seqTimedoutExit s).encq = s.encq := by
  simp [seqTimedoutExit]
@[simp] theorem seqTimedoutExit_encErr (s : State) : (seqTimedoutExit s).encErr = s.encErr := by
  simp [seqTimedoutExit]
@[simp] theorem seqTimedoutExit_stim (s : State) : (seqTimedoutExit s).stim = s.stim := by
  simp [seqTimedoutExit]
@[simp] theorem seqTimedoutExit_swRet (s : State) : (seqTimedoutExit s).swRet = s.swRet := by
  simp [seqTimedoutExit]
@[simp] theorem seqTimedoutExit_encRet (s : State) : (seqTimedoutExit s).encRet = s.encRet := by
  simp [seqTimedoutExit]

/-- Everything a sequencer step can do: nothing, or one of the transitions' effects. -/
theorem seqStep_cases (p t : Bool) (s : State) :
    seqStep p t s = s ∨ seqStep p t s = seqIdleKey s ∨ seqStep p t s = seqKeywaitAbort s ∨
    seqStep p t s = seqEnterKeyed (tselKey s.cfg p t) s ∨ seqStep p t s = seqKeyedUnkey s ∨
    seqStep p t s = seqKeyedTimeout s ∨ seqStep p t s = seqUnmuteDone s ∨ seqStep p t s = seqTimedoutExit s := by
  unfold seqStep seqKeywaitKeytune seqKeywaitKeyptt
  cases s.seq <;> simp only <;> (repeat' split) <;> simp_all

@[simp] theorem seqStep_cfg (p t : Bool) (s : State) : (seqStep p t s).cfg = s.cfg := by
  rcases seqStep_cases p t s with h | h | h | h | h | h | h | h <;> simp [h]
@[simp] theorem seqStep_ms (p t : Bool) (s : State) : (seqStep p t s).ms = s.ms := by
  rcases seqStep_cases p t s with h | h | h | h | h | h | h | h <;> simp [h]
@[simp] theorem seqStep_tdiv (p t : Bool) (s : State) : (seqStep p t s).tdiv = s.tdiv := by
  rcases seqStep_cases p t s with h | h | h | h | h | h | h | h <;> simp [h]
@[simp] theorem seqStep_pttQ (p t : Bool) (s : State) : (seqStep p t s).pttQ = s.pttQ := by
  rcases seqStep_cases p t s with h | h | h | h | h | h | h | h <;> simp [h]
@[simp] theorem seqStep_tuneQ (p t : Bool) (s : State) : (seqStep p t s).tuneQ = s.tuneQ := by
  rcases seqStep_cases p t s with h | h | h | h | h | h | h | h <;> simp [h]
@[simp] theorem seqStep_knobQ (p t : Bool) (s : State) : (seqStep p t s).knobQ = s.knobQ := by
  rcases seqStep_cases p t s with h | h | h | h | h | h | h | h <;> simp [h]
@[simp] theorem seqStep_knobT0 (p t : Bool) (s : State) : (seqStep p t s).knobT0 = s.knobT0 := by
  rcases seqStep_cases p t s with h | h | h | h | h | h | h | h <;> simp [h]
@[simp] theorem seqStep_qvalid (p t : Bool) (s : State) : (seqStep p t s).qvalid = s.qvalid := by
  rcases seqStep_cases p t s with h | h | h | h | h | h | h | h <;> simp [h]
@[simp] theorem seqStep_qprev (p t : Bool) (s : State) : (seqStep p t s).qprev = s.qprev := by
  rcases seqStep_cases p t s with h | h | h | h | h | h | h | h <;> simp [h]
@[simp] theorem seqStep_cnt (p t : Bool) (s : State) : (seqStep p t s).cnt = s.cnt := by
  rcases seqStep_cases p t s with h | h | h | h | h | h | h | h <;> simp [h]
@[simp] theorem seqStep_encq (p t : Bool) (s : State) : (seqStep p t s).encq = s.encq := by
  rcases seqStep_cases p t s with h | h | h | h | h | h | h | h <;> simp [h]
@[simp] theorem seqStep_encErr (p t : Bool) (s : State) : (seqStep p t s).encErr = s.encErr := by
  rcases seqStep_cases p t s with h | h | h | h | h | h | h | h <;> simp [h]
@[simp] theorem seqStep_stim (p t : Bool) (s : State) : (seqStep p t s).stim = s.stim := by
  rcases seqStep_cases p t s with h | h | h | h | h | h | h | h <;> simp [h]
@[simp] theorem seqStep_swRet (p t : Bool) (s : State) : (seqStep p t s).swRet = s.swRet := by
  rcases seqStep_cases p t s with h | h | h | h | h | h | h | h <;> simp [h]
@[simp] theorem seqStep_encRet (p t : Bool) (s : State) : (seqStep p t s).encRet = s.encRet := by
  rcases seqStep_cases p t s with h | h | h | h | h | h | h | h <;> simp [h]

@[simp] theorem tick_cfg (x y z : Bool) (s : State) : (tick x y z s).cfg = s.cfg := by
  simp [tick]
@[simp] theorem tick_ms (x y z : Bool) (s : State) : (tick x y z s).ms = s.ms := by
  simp [tick]
@[simp] theorem tick_tdiv (x y z : Bool) (s : State) : (tick x y z s).tdiv = s.tdiv := by
  simp [tick]
@[simp] theorem tick_qvalid (x y z : Bool) (s : State) : (tick x y z s).qvalid = s.qvalid := by
  simp [tick]
@[simp] theorem tick_qprev (x y z : Bool) (s : State) : (tick x y z s).qprev = s.qprev := by
  simp [tick]
@[simp] theorem tick_cnt (x y z : Bool) (s : State) : (tick x y z s).cnt = s.cnt := by
  simp [tick]
@[simp] theorem tick_encq (x y z : Bool) (s : State) : (tick x y z s).encq = s.encq := by
  simp [tick]
@[simp] theorem tick_encErr (x y z : Bool) (s : State) : (tick x y z s).encErr = s.encErr := by
  simp [tick]
@[simp] theorem tick_stim (x y z : Bool) (s : State) : (tick x y z s).stim = s.stim := by
  simp [tick]
@[simp] theorem tick_swRet (x y z : Bool) (s : State) : (tick x y z s).swRet = s.swRet := by
  simp [tick]
@[simp] theorem tick_encRet (x y z : Bool) (s : State) : (tick x y z s).encRet = s.encRet := by
  simp [tick]

@[simp] theorem tick_pttQ (x y z : Bool) (s : State) : (tick x y z s).pttQ = !x := by simp [tick, asserted]
@[simp] theorem tick_tuneQ (x y z : Bool) (s : State) : (tick x y z s).tuneQ = !y := by simp [tick, asserted]
@[simp] theorem tick_knobQ (x y z : Bool) (s : State) : (tick x y z s).knobQ = !z := by simp [tick, asserted]

@[simp] theorem msinc_cfg (x y z : Bool) (s : State) : (msinc x y z s).cfg = s.cfg := by
  unfold msinc; split <;> simp [advanceMs]
@[simp] theorem msinc_qvalid (x y z : Bool) (s : State) : (msinc x y z s).qvalid = s.qvalid := by
  unfold msinc; split <;> simp [advanceMs]
@[simp] theorem msinc_qprev (x y z : Bool) (s : State) : (msinc x y z s).qprev = s.qprev := by
  unfold msinc; split <;> simp [advanceMs]
@[simp] theorem msinc_cnt (x y z : Bool) (s : State) : (msinc x y z s).cnt = s.cnt := by
  unfold msinc; split <;> simp [advanceMs]
@[simp] theorem msinc_encq (x y z : Bool) (s : State) : (msinc x y z s).encq = s.encq := by
  unfold msinc; split <;> simp [advanceMs]
@[simp] theorem msinc_encErr (x y z : Bool) (s : State) : (msinc x y z s).encErr = s.encErr := by
  unfold msinc; split <;> simp [advanceMs]
@[simp] theorem msinc_stim (x y z : Bool) (s : State) : (msinc x y z s).stim = s.stim := by
  unfold msinc; split <;> simp [advanceMs]
@[simp] theorem msinc_swRet (x y z : Bool) (s : State) : (msinc x y z s).swRet = s.swRet := by
  unfold msinc; split <;> simp [advanceMs]
@[simp] theorem msinc_encRet (x y z : Bool) (s : State) : (msinc x y z s).encRet = s.encRet := by
  unfold msinc; split <;> simp [advanceMs]

@[simp] theorem msinc_ms (x y z : Bool) (s : State) : (msinc x y z s).ms = tadd s.cfg s.ms 1 := by
  unfold msinc; split <;> simp [advanceMs]

@[simp] theorem quadAccumulate_cfg (d : Int) (cur : BitVec 2) (s : State) : (quadAccumulate d cur s).cfg = s.cfg := by
  unfold quadAccumulate; simp only; (repeat' split) <;> simp
@[simp] theorem quadAccumulate_ms (d : Int) (cur : BitVec 2) (s : State) : (quadAccumulate d cur s).ms = s.ms := by
  unfold quadAccumulate; simp only; (repeat' split) <;> simp
@[simp] theorem quadAccumulate_tdiv (d : Int) (cur : BitVec 2) (s : State) :
    (quadAccumulate d cur s).tdiv = s.tdiv := by
  unfold quadAccumulate; simp only; (repeat' split) <;> simp
@[simp] theorem quadAccumulate_pttQ (d : Int) (cur : BitVec 2) (s : State) :
    (quadAccumulate d cur s).pttQ = s.pttQ := by
  unfold quadAccumulate; simp only; (repeat' split) <;> simp
@[simp] theorem quadAccumulate_tuneQ (d : Int) (cur : BitVec 2) (s : State) :
    (quadAccumulate d cur s).tuneQ = s.tuneQ := by
  unfold quadAccumulate; simp only; (repeat' split) <;> simp
@[simp] theorem quadAccumulate_knobQ (d : Int) (cur : BitVec 2) (s : State) :
    (quadAccumulate d cur s).knobQ = s.knobQ := by
  unfold quadAccumulate; simp only; (repeat' split) <;> simp
@[simp] theorem quadAccumulate_knobT0 (d : Int) (cur : BitVec 2) (s : State) :
    (quadAccumulate d cur s).knobT0 = s.knobT0 := by
  unfold quadAccumulate; simp only; (repeat' split) <;> simp
@[simp] theorem quadAccumulate_seq (d : Int) (cur : BitVec 2) (s : State) : (quadAccumulate d cur s).seq = s.seq := by
  unfold quadAccumulate; simp only; (repeat' split) <;> simp
@[simp] theorem quadAccumulate_deadline (d : Int) (cur : BitVec 2) (s : State) :
    (quadAccumulate d cur s).deadline = s.deadline := by
  unfold quadAccumulate; simp only; (repeat' split) <;> simp
@[simp] theorem quadAccumulate_mute (d : Int) (cur : BitVec 2) (s : State) :
    (quadAccumulate d cur s).mute = s.mute := by
  unfold quadAccumulate; simp only; (repeat' split) <;> simp
@[simp] theorem quadAccumulate_pttOut (d : Int) (cur : BitVec 2) (s : State) :
    (quadAccumulate d cur s).pttOut = s.pttOut := by
  unfold quadAccumulate; simp only; (repeat' split) <;> simp
@[simp] theorem quadAccumulate_tuneOut (d : Int) (cur : BitVec 2) (s : State) :
    (quadAccumulate d cur s).tuneOut = s.tuneOut := by
  unfold quadAccumulate; simp only; (repeat' split) <;> simp
@[simp] theorem quadAccumulate_swq (d : Int) (cur : BitVec 2) (s : State) : (quadAccumulate d cur s).swq = s.swq := by
  unfold quadAccumulate; simp only; (repeat' split) <;> simp
@[simp] theorem quadAccumulate_swErr (d : Int) (cur : BitVec 2) (s : State) :
    (quadAccumulate d cur s).swErr = s.swErr := by
  unfold quadAccumulate; simp only; (repeat' split) <;> simp
@[simp] theorem quadAccumulate_qvalid (d : Int) (cur : BitVec 2) (s : State) :
    (quadAccumulate d cur s).qvalid = s.qvalid := by
  unfold quadAccumulate; simp only; (repeat' split) <;> simp
@[simp] theorem quadAccumulate_stim (d : Int) (cur : BitVec 2) (s : State) :
    (quadAccumulate d cur s).stim = s.stim := by
  unfold quadAccumulate; simp only; (repeat' split) <;> simp
@[simp] theorem quadAccumulate_swRet (d : Int) (cur : BitVec 2) (s : State) :
    (quadAccumulate d cur s).swRet = s.swRet := by
  unfold quadAccumulate; simp only; (repeat' split) <;> simp
@[simp] theorem quadAccumulate_encRet (d : Int) (cur : BitVec 2) (s : State) :
    (quadAccumulate d cur s).encRet = s.encRet := by
  unfold quadAccumulate; simp only; (repeat' split) <;> simp

@[simp] theorem qsample_cfg (a b : Bool) (s : State) : (qsample a b s).cfg = s.cfg := by
  unfold qsample; simp only; split <;> simp
@[simp] theorem qsample_ms (a b : Bool) (s : State) : (qsample a b s).ms = s.ms := by
  unfold qsample; simp only; split <;> simp
@[simp] theorem qsample_tdiv (a b : Bool) (s : State) : (qsample a b s).tdiv = s.tdiv := by
  unfold qsample; simp only; split <;> simp
@[simp] theorem qsample_pttQ (a b : Bool) (s : State) : (qsample a b s).pttQ = s.pttQ := by
  unfold qsample; simp only; split <;> simp
@[simp] theorem qsample_tuneQ (a b : Bool) (s : State) : (qsample a b s).tuneQ = s.tuneQ := by
  unfold qsample; simp only; split <;> simp
@[simp] theorem qsample_knobQ (a b : Bool) (s : State) : (qsample a b s).knobQ = s.knobQ := by
  unfold qsample; simp only; split <;> simp
@[simp] theorem qsample_knobT0 (a b : Bool) (s : State) : (qsample a b s).knobT0 = s.knobT0 := by
  unfold qsample; simp only; split <;> simp
@[simp] theorem qsample_seq (a b : Bool) (s : State) : (qsample a b s).seq = s.seq := by
  unfold qsample; simp only; split <;> simp
@[simp] theorem qsample_deadline (a b : Bool) (s : State) : (qsample a b s).deadline = s.deadline := by
  unfold qsample; simp only; split <;> simp
@[simp] theorem qsample_mute (a b : Bool) (s : State) : (qsample a b s).mute = s.mute := by
  unfold qsample; simp only; split <;> simp
@[simp] theorem qsample_pttOut (a b : Bool) (s : State) : (qsample a b s).pttOut = s.pttOut := by
  unfold qsample; simp only; split <;> simp
@[simp] theorem qsample_tuneOut (a b : Bool) (s : State) : (qsample a b s).tuneOut = s.tuneOut := by
  unfold qsample; simp only; split <;> simp
@[simp] theorem qsample_swq (a b : Bool) (s : State) : (qsample a b s).swq = s.swq := by
  unfold qsample; simp only; split <;> simp
@[simp] theorem qsample_swErr (a b : Bool) (s : State) : (qsample a b s).swErr = s.swErr := by
  unfold qsample; simp only; split <;> simp
@[simp] theorem qsample_stim (a b : Bool) (s : State) : (qsample a b s).stim = s.stim := by
  unfold qsample; simp only; split <;> simp
@[simp] theorem qsample_swRet (a b : Bool) (s : State) : (qsample a b s).swRet = s.swRet := by
  unfold qsample; simp only; split <;> simp
@[simp] theorem qsample_encRet (a b : Bool) (s : State) : (qsample a b s).encRet = s.encRet := by
  unfold qsample; simp only; split <;> simp

/-- A sample always becomes the previous one, and a sample is then held. -/
theorem qsample_prev (a b : Bool) (s : State) :
    (qsample a b s).qprev = sample a b ∧ (qsample a b s).qvalid = true := by
  unfold qsample quadAccumulate
  simp only
  (repeat' split) <;> simp [*]

@[simp] theorem popsw_cfg  (s : State) : (popsw s).cfg = s.cfg := rfl
@[simp] theorem popsw_ms  (s : State) : (popsw s).ms = s.ms := rfl
@[simp] theorem popsw_tdiv  (s : State) : (popsw s).tdiv = s.tdiv := rfl
@[simp] theorem popsw_pttQ  (s : State) : (popsw s).pttQ = s.pttQ := rfl
@[simp] theorem popsw_tuneQ  (s : State) : (popsw s).tuneQ = s.tuneQ := rfl
@[simp] theorem popsw_knobQ  (s : State) : (popsw s).knobQ = s.knobQ := rfl
@[simp] theorem popsw_knobT0  (s : State) : (popsw s).knobT0 = s.knobT0 := rfl
@[simp] theorem popsw_seq  (s : State) : (popsw s).seq = s.seq := rfl
@[simp] theorem popsw_deadline  (s : State) : (popsw s).deadline = s.deadline := rfl
@[simp] theorem popsw_mute  (s : State) : (popsw s).mute = s.mute := rfl
@[simp] theorem popsw_pttOut  (s : State) : (popsw s).pttOut = s.pttOut := rfl
@[simp] theorem popsw_tuneOut  (s : State) : (popsw s).tuneOut = s.tuneOut := rfl
@[simp] theorem popsw_swErr  (s : State) : (popsw s).swErr = s.swErr := rfl
@[simp] theorem popsw_qvalid  (s : State) : (popsw s).qvalid = s.qvalid := rfl
@[simp] theorem popsw_qprev  (s : State) : (popsw s).qprev = s.qprev := rfl
@[simp] theorem popsw_cnt  (s : State) : (popsw s).cnt = s.cnt := rfl
@[simp] theorem popsw_encq  (s : State) : (popsw s).encq = s.encq := rfl
@[simp] theorem popsw_encErr  (s : State) : (popsw s).encErr = s.encErr := rfl
@[simp] theorem popsw_stim  (s : State) : (popsw s).stim = s.stim := rfl
@[simp] theorem popsw_encRet  (s : State) : (popsw s).encRet = s.encRet := rfl

@[simp] theorem popenc_cfg  (s : State) : (popenc s).cfg = s.cfg := rfl
@[simp] theorem popenc_ms  (s : State) : (popenc s).ms = s.ms := rfl
@[simp] theorem popenc_tdiv  (s : State) : (popenc s).tdiv = s.tdiv := rfl
@[simp] theorem popenc_pttQ  (s : State) : (popenc s).pttQ = s.pttQ := rfl
@[simp] theorem popenc_tuneQ  (s : State) : (popenc s).tuneQ = s.tuneQ := rfl
@[simp] theorem popenc_knobQ  (s : State) : (popenc s).knobQ = s.knobQ := rfl
@[simp] theorem popenc_knobT0  (s : State) : (popenc s).knobT0 = s.knobT0 := rfl
@[simp] theorem popenc_seq  (s : State) : (popenc s).seq = s.seq := rfl
@[simp] theorem popenc_deadline  (s : State) : (popenc s).deadline = s.deadline := rfl
@[simp] theorem popenc_mute  (s : State) : (popenc s).mute = s.mute := rfl
@[simp] theorem popenc_pttOut  (s : State) : (popenc s).pttOut = s.pttOut := rfl
@[simp] theorem popenc_tuneOut  (s : State) : (popenc s).tuneOut = s.tuneOut := rfl
@[simp] theorem popenc_swq  (s : State) : (popenc s).swq = s.swq := rfl
@[simp] theorem popenc_swErr  (s : State) : (popenc s).swErr = s.swErr := rfl
@[simp] theorem popenc_qvalid  (s : State) : (popenc s).qvalid = s.qvalid := rfl
@[simp] theorem popenc_qprev  (s : State) : (popenc s).qprev = s.qprev := rfl
@[simp] theorem popenc_cnt  (s : State) : (popenc s).cnt = s.cnt := rfl
@[simp] theorem popenc_encErr  (s : State) : (popenc s).encErr = s.encErr := rfl
@[simp] theorem popenc_stim  (s : State) : (popenc s).stim = s.stim := rfl
@[simp] theorem popenc_swRet  (s : State) : (popenc s).swRet = s.swRet := rfl

@[simp] theorem popsw_swq (s : State) : (popsw s).swq = s.swq.tail := pop_rest _ _
@[simp] theorem popenc_encq (s : State) : (popenc s).encq = s.encq.tail := pop_rest _ _

/-- Two states with equal fields are equal. -/
theorem State.eq_of_fields {s t : State} (h0 : t.cfg = s.cfg) (h1 : t.ms = s.ms) (h2 : t.tdiv = s.tdiv) (h3 : t.pttQ = s.pttQ) (h4 : t.tuneQ = s.tuneQ) (h5 : t.knobQ = s.knobQ) (h6 : t.knobT0 = s.knobT0) (h7 : t.seq = s.seq) (h8 : t.deadline = s.deadline) (h9 : t.mute = s.mute) (h10 : t.pttOut = s.pttOut) (h11 : t.tuneOut = s.tuneOut) (h12 : t.swq = s.swq) (h13 : t.swErr = s.swErr) (h14 : t.qvalid = s.qvalid) (h15 : t.qprev = s.qprev) (h16 : t.cnt = s.cnt) (h17 : t.encq = s.encq) (h18 : t.encErr = s.encErr) (h19 : t.stim = s.stim) (h20 : t.swRet = s.swRet) (h21 : t.encRet = s.encRet) : t = s := by
  cases s; cases t; simp_all

end Sys2Proof.Machine
end

