-- ==== Sys2Proof/Laws/Step.lean ====
section
/-! SUPPORT. What a step can do, said once: the six stimulus words, the state each leads to, and the two ways
a step can end. -/
namespace Sys2Proof.Machine

/-- The stimulus decoder, word by word: what it accepts is an operation with that word. -/
theorem decodeOp_encodes : ∀ n : Fin 256, (match decodeOp (BitVec.ofFin n) with
    | .ok i => decide (encode i = .op (BitVec.ofFin n))
    | .error _ => true) = true := by decide +kernel

/-- The words the decoder accepts are the words of the six operations. -/
theorem decodeOp_cases {S : StimWord} {i : Instr} (h : decodeOp S = .ok i) :
    (S = wordNop ∧ i = .nop) ∨ (∃ x y z, S = wordMsinc x y z ∧ i = .msinc x y z) ∨
    (∃ a b, S = wordQ a b ∧ i = .qsample a b) ∨ (S = wordPopsw ∧ i = .popsw) ∨
    (S = wordPopenc ∧ i = .popenc) ∨ (S = wordReset ∧ i = .reset) := by
  have h1 := decodeOp_encodes S.toFin
  change (match decodeOp S with
    | .ok i => decide (encode i = .op S)
    | .error _ => true) = true at h1
  rw [h] at h1
  have h2 := of_decide_eq_true h1
  cases i <;> simp only [encode, CodeWord.op.injEq, reduceCtorEq] at h2 <;> subst h2
  · exact .inl ⟨rfl, rfl⟩
  · rename_i x y z
    exact .inr (.inl ⟨x, y, z, by cases x <;> cases y <;> cases z <;> rfl, rfl⟩)
  · rename_i a b
    exact .inr (.inr (.inl ⟨a, b, by cases a <;> cases b <;> rfl, rfl⟩))
  · exact .inr (.inr (.inr (.inl ⟨rfl, rfl⟩)))
  · exact .inr (.inr (.inr (.inr (.inl ⟨rfl, rfl⟩))))
  · exact .inr (.inr (.inr (.inr (.inr ⟨rfl, rfl⟩))))

@[simp] theorem decodeOp_nop : decodeOp wordNop = .ok .nop := rfl
@[simp] theorem decodeOp_popsw : decodeOp wordPopsw = .ok .popsw := rfl
@[simp] theorem decodeOp_popenc : decodeOp wordPopenc = .ok .popenc := rfl
@[simp] theorem decodeOp_reset : decodeOp wordReset = .ok .reset := rfl
@[simp] theorem decodeOp_msinc (x y z : Bool) : decodeOp (wordMsinc x y z) = .ok (.msinc x y z) := by
  cases x <;> cases y <;> cases z <;> rfl
@[simp] theorem decodeOp_q (a b : Bool) : decodeOp (wordQ a b) = .ok (.qsample a b) := by
  cases a <;> cases b <;> rfl

/-- A step with no stimulus to come. -/
theorem step_of_nil {s : State} (h : s.stim = []) : step s = .next s := by
  simp [step, fetch, h, exec, execNop]

/-- A step on a word the decoder accepts. -/
theorem step_of_ok {s : State} {S : StimWord} {rest : List StimWord} {i : Instr} (h : s.stim = S :: rest)
    (hd : decodeOp S = .ok i) : step s = exec i (s.setStim rest) := by
  simp [step, fetch, h, hd]

/-- A step on a word the decoder refuses. -/
theorem step_of_error {s : State} {S : StimWord} {rest : List StimWord} {e : DecodeError}
    (h : s.stim = S :: rest) (hd : decodeOp S = .error e) : step s = .refused (.reservedStimulus S e) := by
  simp [step, fetch, h, hd]

/-- Everything a step that has a next state can have done. -/
theorem step_next_cases {s t : State} (h : step s = .next t) :
    (s.stim = [] ∧ t = s) ∨
    (∃ S rest, s.stim = S :: rest ∧
      ((S = wordNop ∧ t = s.setStim rest) ∨
       (∃ x y z, S = wordMsinc x y z ∧ t = msinc x y z (s.setStim rest)) ∨
       (∃ a b, S = wordQ a b ∧ t = qsample a b (s.setStim rest)) ∨
       (S = wordPopsw ∧ t = popsw (s.setStim rest)) ∨
       (S = wordPopenc ∧ t = popenc (s.setStim rest)) ∨
       (S = wordReset ∧ t = resetBlock (s.setStim rest)))) := by
  cases hs : s.stim with
  | nil =>
    rw [step_of_nil hs] at h
    exact .inl ⟨rfl, by injection h with h; exact h.symm⟩
  | cons S rest =>
    refine .inr ⟨S, rest, rfl, ?_⟩
    cases hd : decodeOp S with
    | error e =>
      rw [step_of_error hs hd] at h
      cases h
    | ok i =>
      rw [step_of_ok hs hd] at h
      rcases decodeOp_cases hd with ⟨h1, rfl⟩ | ⟨x, y, z, h1, rfl⟩ | ⟨a, b, h1, rfl⟩ | ⟨h1, rfl⟩ | ⟨h1, rfl⟩ | ⟨h1, rfl⟩ <;>
        injection h with h <;> subst h
      · exact .inl ⟨h1, rfl⟩
      · exact .inr (.inl ⟨x, y, z, h1, rfl⟩)
      · exact .inr (.inr (.inl ⟨a, b, h1, rfl⟩))
      · exact .inr (.inr (.inr (.inl ⟨h1, rfl⟩)))
      · exact .inr (.inr (.inr (.inr (.inl ⟨h1, rfl⟩))))
      · exact .inr (.inr (.inr (.inr (.inr ⟨h1, rfl⟩))))

/-- Running no words changes nothing. -/
theorem runWords_nil (s : State) : runWords [] s = .next s := by
  simp [runWords, Host.Core.run]; rfl

/-- Running a word and then more words. -/
theorem runWords_cons {S : StimWord} {ws : List StimWord} {s : State} {i : Instr} {t : State}
    (hd : decodeOp S = .ok i) (ht : exec i (s.setStim (ws ++ s.stim)) = .next t) (hst : t.stim = ws ++ s.stim) :
    runWords (S :: ws) s = runWords ws (t.setStim s.stim) := by
  have h1 : step (s.setStim (S :: ws ++ s.stim)) = .next t := by
    rw [step_of_ok (S := S) (rest := ws ++ s.stim) rfl hd]
    exact ht
  have h2 : (t.setStim s.stim).setStim (ws ++ (t.setStim s.stim).stim) = t := by
    cases t; simp_all [State.setStim]
  unfold runWords
  rw [h2]
  show Host.Core.run Sys2Proof.core (ws.length + 1) _ = _
  simp only [Host.Core.run, Sys2Proof.core]
  rw [h1]

end Sys2Proof.Machine
end

