-- ==== Sys2Proof/Laws/Cases.lean ====
section
/-! SUPPORT. Everything each shared operation can do, one lemma an operation, and that the stimulus still to come
has no influence on an operation. -/
namespace Sys2Proof.Machine

/-- Everything `fetch` can do. -/
theorem fetch_cases (s : State) :
    (s.stim = [] ∧ fetch s = none) ∨ (∃ w rest, s.stim = w :: rest ∧ fetch s = some (w, s.setStim rest)) := by
  cases h : s.stim with
  | nil => exact .inl ⟨rfl, by simp [fetch, h]⟩
  | cons w rest => exact .inr ⟨w, rest, rfl, by simp [fetch, h]⟩

/-- Everything the TUNE step can do. -/
theorem sampleTune_cases (t : Bool) (s : State) :
    (s.tuneQ = false ∧ t = true ∧ sampleTune t s = pushSw .tunePressed s) ∨
    (s.tuneQ = true ∧ t = false ∧ sampleTune t s = pushSw .tuneReleased s) ∨
    (s.tuneQ = t ∧ sampleTune t s = s) := by
  cases h : s.tuneQ <;> cases t <;> simp [sampleTune, h]

/-- Everything the PTT step can do. -/
theorem samplePtt_cases (p : Bool) (s : State) :
    (s.pttQ = false ∧ p = true ∧ samplePtt p s = pushSw .pttPressed s) ∨
    (s.pttQ = true ∧ p = false ∧ samplePtt p s = pushSw .pttReleased s) ∨
    (s.pttQ = p ∧ samplePtt p s = s) := by
  cases h : s.pttQ <;> cases p <;> simp [samplePtt, h]

/-- Everything the KNOB step can do. -/
theorem sampleKnob_cases (k : Bool) (s : State) :
    (s.knobQ = false ∧ k = true ∧ sampleKnob k s = s.setKnobT0 s.ms) ∨
    (s.knobQ = true ∧ k = false ∧ longPress s = true ∧ sampleKnob k s = pushSw .knobReleasedLong s) ∨
    (s.knobQ = true ∧ k = false ∧ longPress s = false ∧ sampleKnob k s = pushSw .knobReleased s) ∨
    (s.knobQ = k ∧ sampleKnob k s = s) := by
  cases h : s.knobQ <;> cases k <;> cases hl : longPress s <;> simp [sampleKnob, knobPress, h, hl]

/-- The sequencer's step by state and condition: the rows of R48. -/
theorem seqStep_rows (p t : Bool) (s : State) :
    (s.seq = .idle ∧ anyKey p t = true ∧ seqStep p t s = seqIdleKey s) ∨
    (s.seq = .keyWait ∧ anyKey p t = false ∧ seqStep p t s = seqKeywaitAbort s) ∨
    (s.seq = .keyWait ∧ anyKey p t = true ∧ expired s = true ∧
      seqStep p t s = seqEnterKeyed (tselKey s.cfg p t) s) ∨
    (s.seq = .keyed ∧ anyKey p t = false ∧ seqStep p t s = seqKeyedUnkey s) ∨
    (s.seq = .keyed ∧ anyKey p t = true ∧ expired s = true ∧ seqStep p t s = seqKeyedTimeout s) ∨
    (s.seq = .unmuteWait ∧ expired s = true ∧ seqStep p t s = seqUnmuteDone s) ∨
    (s.seq = .timedOut ∧ anyKey p t = false ∧ seqStep p t s = seqTimedoutExit s) ∨
    (seqStep p t s = s ∧
      ((s.seq = .idle ∧ anyKey p t = false) ∨ (s.seq = .keyWait ∧ anyKey p t = true ∧ expired s = false) ∨
       (s.seq = .keyed ∧ anyKey p t = true ∧ expired s = false) ∨ (s.seq = .unmuteWait ∧ expired s = false) ∨
       (s.seq = .timedOut ∧ anyKey p t = true))) := by
  cases hs : s.seq <;> cases ha : anyKey p t <;> cases he : expired s <;> cases ht : tselKey s.cfg p t <;>
    simp [seqStep, hs, ha, he, ht, seqKeywaitKeytune, seqKeywaitKeyptt]

/-- Everything an `MSINC` can do. -/
theorem msinc_cases (x y z : Bool) (s : State) :
    (tickDue s = true ∧ msinc x y z s = tick x y z ((advanceMs s).setTdiv 0)) ∨
    (tickDue s = false ∧ msinc x y z s = (advanceMs s).setTdiv (s.tdiv + 1)) := by
  cases h : tickDue s <;> simp [msinc, h]

/-- Everything the accumulation of a count can do (R61, R62, R64). -/
theorem quadAccumulate_cases (d : Int) (cur : BitVec 2) (s : State) :
    ((s.cfg.detentThresh : Int) ≤ s.cnt + d ∧
      quadAccumulate d cur s = pushEnc .plus ((s.setQprev cur).setCnt 0)) ∨
    (s.cnt + d < (s.cfg.detentThresh : Int) ∧ s.cnt + d < 0 ∧
      quadAccumulate d cur s = pushEnc .minus ((s.setQprev cur).setCnt ((s.cfg.detentThresh : Int) - 1))) ∨
    (s.cnt + d < (s.cfg.detentThresh : Int) ∧ 0 ≤ s.cnt + d ∧
      quadAccumulate d cur s = (s.setQprev cur).setCnt (s.cnt + d)) := by
  by_cases h1 : (s.cfg.detentThresh : Int) ≤ s.cnt + d
  · exact .inl ⟨h1, by simp [quadAccumulate, h1]⟩
  · by_cases h2 : s.cnt + d < 0
    · exact .inr (.inl ⟨by omega, h2, by simp [quadAccumulate, h1, h2]⟩)
    · exact .inr (.inr ⟨by omega, by omega, by simp [quadAccumulate, h1, h2]⟩)

/-- Everything a `QSAMPLE` can do. -/
theorem qsample_cases (a b : Bool) (s : State) :
    (s.qvalid = false ∧ qsample a b s = (s.setQprev (sample a b)).setQvalid true) ∨
    (s.qvalid = true ∧
      qsample a b s = quadAccumulate (quadCount (qtWord s.qprev (sample a b))) (sample a b) s) := by
  cases h : s.qvalid <;> simp [qsample, h]

/-- A tick does not look at the stimulus still to come. -/
theorem tick_setStim (x y z : Bool) (ws : List StimWord) (s : State) :
    tick x y z (s.setStim ws) = (tick x y z s).setStim ws := by
  have h1 : ∀ (t : Bool) (s : State), sampleTune t (s.setStim ws) = (sampleTune t s).setStim ws := by
    intro t s
    simp only [sampleTune, State.setStim_tuneQ]
    cases s.tuneQ <;> cases t <;> rfl
  have h2 : ∀ (p : Bool) (s : State), samplePtt p (s.setStim ws) = (samplePtt p s).setStim ws := by
    intro p s
    simp only [samplePtt, State.setStim_pttQ]
    cases s.pttQ <;> cases p <;> rfl
  have h3 : ∀ (k : Bool) (s : State), sampleKnob k (s.setStim ws) = (sampleKnob k s).setStim ws := by
    intro k s
    simp only [sampleKnob, State.setStim_knobQ, show longPress (s.setStim ws) = longPress s from rfl]
    cases s.knobQ <;> cases k <;> cases longPress s <;> rfl
  have h4 : ∀ (p t : Bool) (s : State), seqStep p t (s.setStim ws) = (seqStep p t s).setStim ws := by
    intro p t s
    unfold seqStep
    rw [show expired (s.setStim ws) = expired s from rfl, State.setStim_seq, State.setStim_cfg]
    cases s.seq <;> cases anyKey p t <;> cases expired s <;> cases tselKey s.cfg p t <;> rfl
  have h5 : ∀ (p t k : Bool) (s : State), (s.setStim ws).setPrior p t k = (s.setPrior p t k).setStim ws :=
    fun _ _ _ _ => rfl
  simp only [tick, samplerStep, h1, h2, h3, h4, h5]

/-- An `MSINC` does not look at the stimulus still to come. -/
theorem msinc_setStim (x y z : Bool) (ws : List StimWord) (s : State) :
    msinc x y z (s.setStim ws) = (msinc x y z s).setStim ws := by
  unfold msinc
  rw [show tickDue (s.setStim ws) = tickDue s from rfl]
  cases tickDue s
  · rfl
  · exact tick_setStim x y z ws ((advanceMs s).setTdiv 0)

/-- A `QSAMPLE` does not look at the stimulus still to come. -/
theorem qsample_setStim (a b : Bool) (ws : List StimWord) (s : State) :
    qsample a b (s.setStim ws) = (qsample a b s).setStim ws := by
  have h : ∀ (d : Int) (c : BitVec 2), quadAccumulate d c (s.setStim ws) = (quadAccumulate d c s).setStim ws := by
    intro d c
    have e1 : (s.setStim ws).cfg = s.cfg := rfl
    have e2 : (s.setStim ws).cnt = s.cnt := rfl
    rcases quadAccumulate_cases d c s with ⟨h1, h2⟩ | ⟨h1, h2, h3⟩ | ⟨h1, h2, h3⟩ <;>
      rcases quadAccumulate_cases d c (s.setStim ws) with ⟨k1, k2⟩ | ⟨k1, k2, k3⟩ | ⟨k1, k2, k3⟩ <;>
      rw [e1, e2] at k1 <;> try rw [e2] at k2
    all_goals first
      | omega
      | (rw [k2, h2]; rfl)
      | (rw [k3, h3]; rfl)
  unfold qsample
  simp only [State.setStim_qvalid, State.setStim_qprev, h]
  cases s.qvalid <;> rfl

end Sys2Proof.Machine
end

