-- ==== Sys2Proof/Laws/PerInstr.lean ====
section
/-! SUPPORT. The family `EncodesItsRow`: the word an instruction is encoded as stands at the decode point of
its format and matches its row of the opcode table, whatever its operands. -/
namespace Sys2Proof.Laws

/-- The encoding of `i` is a word of `i`'s format whose fixed bits are those of `i`'s row. -/
def EncodesItsRow.Statement (i : Instr) : Prop :=
  (encode i).format = i.format ∧ i.row.format = i.format ∧ i.row.matchesWord (encode i) = true

theorem EncodesItsRow.nop : EncodesItsRow.Statement (.nop) := by
  exact ⟨rfl, rfl, rfl⟩

theorem EncodesItsRow.msinc (pttN tuneN knobN : Bool) : EncodesItsRow.Statement (.msinc pttN tuneN knobN) := by
  cases pttN <;> cases tuneN <;> cases knobN <;> exact ⟨rfl, rfl, rfl⟩

theorem EncodesItsRow.qsample (encA encB : Bool) : EncodesItsRow.Statement (.qsample encA encB) := by
  cases encA <;> cases encB <;> exact ⟨rfl, rfl, rfl⟩

theorem EncodesItsRow.popsw : EncodesItsRow.Statement (.popsw) := by
  exact ⟨rfl, rfl, rfl⟩

theorem EncodesItsRow.popenc : EncodesItsRow.Statement (.popenc) := by
  exact ⟨rfl, rfl, rfl⟩

theorem EncodesItsRow.reset : EncodesItsRow.Statement (.reset) := by
  exact ⟨rfl, rfl, rfl⟩

theorem EncodesItsRow.seqIdleHold (tsel expired : Bool) : EncodesItsRow.Statement (.seqIdleHold tsel expired) := by
  cases tsel <;> cases expired <;> exact ⟨rfl, rfl, rfl⟩

theorem EncodesItsRow.seqIdleKey (tsel expired : Bool) : EncodesItsRow.Statement (.seqIdleKey tsel expired) := by
  cases tsel <;> cases expired <;> exact ⟨rfl, rfl, rfl⟩

theorem EncodesItsRow.seqKeywaitAbort (tsel expired : Bool) : EncodesItsRow.Statement (.seqKeywaitAbort tsel expired) := by
  cases tsel <;> cases expired <;> exact ⟨rfl, rfl, rfl⟩

theorem EncodesItsRow.seqKeywaitHold (tsel : Bool) : EncodesItsRow.Statement (.seqKeywaitHold tsel) := by
  cases tsel <;> exact ⟨rfl, rfl, rfl⟩

theorem EncodesItsRow.seqKeywaitKeyptt : EncodesItsRow.Statement (.seqKeywaitKeyptt) := by
  exact ⟨rfl, rfl, rfl⟩

theorem EncodesItsRow.seqKeywaitKeytune : EncodesItsRow.Statement (.seqKeywaitKeytune) := by
  exact ⟨rfl, rfl, rfl⟩

theorem EncodesItsRow.seqKeyedUnkey (tsel expired : Bool) : EncodesItsRow.Statement (.seqKeyedUnkey tsel expired) := by
  cases tsel <;> cases expired <;> exact ⟨rfl, rfl, rfl⟩

theorem EncodesItsRow.seqKeyedHold (tsel : Bool) : EncodesItsRow.Statement (.seqKeyedHold tsel) := by
  cases tsel <;> exact ⟨rfl, rfl, rfl⟩

theorem EncodesItsRow.seqKeyedTimeout (tsel : Bool) : EncodesItsRow.Statement (.seqKeyedTimeout tsel) := by
  cases tsel <;> exact ⟨rfl, rfl, rfl⟩

theorem EncodesItsRow.seqUnmuteHold (any tsel : Bool) : EncodesItsRow.Statement (.seqUnmuteHold any tsel) := by
  cases any <;> cases tsel <;> exact ⟨rfl, rfl, rfl⟩

theorem EncodesItsRow.seqUnmuteDone (any tsel : Bool) : EncodesItsRow.Statement (.seqUnmuteDone any tsel) := by
  cases any <;> cases tsel <;> exact ⟨rfl, rfl, rfl⟩

theorem EncodesItsRow.seqTimedoutExit (tsel expired : Bool) : EncodesItsRow.Statement (.seqTimedoutExit tsel expired) := by
  cases tsel <;> cases expired <;> exact ⟨rfl, rfl, rfl⟩

theorem EncodesItsRow.seqTimedoutHold (tsel expired : Bool) : EncodesItsRow.Statement (.seqTimedoutHold tsel expired) := by
  cases tsel <;> cases expired <;> exact ⟨rfl, rfl, rfl⟩

theorem EncodesItsRow.edgePttIdle (lng : Bool) : EncodesItsRow.Statement (.edgePttIdle lng) := by
  cases lng <;> exact ⟨rfl, rfl, rfl⟩

theorem EncodesItsRow.edgePttPress (lng : Bool) : EncodesItsRow.Statement (.edgePttPress lng) := by
  cases lng <;> exact ⟨rfl, rfl, rfl⟩

theorem EncodesItsRow.edgePttRelease (lng : Bool) : EncodesItsRow.Statement (.edgePttRelease lng) := by
  cases lng <;> exact ⟨rfl, rfl, rfl⟩

theorem EncodesItsRow.edgePttHeld (lng : Bool) : EncodesItsRow.Statement (.edgePttHeld lng) := by
  cases lng <;> exact ⟨rfl, rfl, rfl⟩

theorem EncodesItsRow.edgeTuneIdle (lng : Bool) : EncodesItsRow.Statement (.edgeTuneIdle lng) := by
  cases lng <;> exact ⟨rfl, rfl, rfl⟩

theorem EncodesItsRow.edgeTunePress (lng : Bool) : EncodesItsRow.Statement (.edgeTunePress lng) := by
  cases lng <;> exact ⟨rfl, rfl, rfl⟩

theorem EncodesItsRow.edgeTuneRelease (lng : Bool) : EncodesItsRow.Statement (.edgeTuneRelease lng) := by
  cases lng <;> exact ⟨rfl, rfl, rfl⟩

theorem EncodesItsRow.edgeTuneHeld (lng : Bool) : EncodesItsRow.Statement (.edgeTuneHeld lng) := by
  cases lng <;> exact ⟨rfl, rfl, rfl⟩

theorem EncodesItsRow.edgeKnobIdle (lng : Bool) : EncodesItsRow.Statement (.edgeKnobIdle lng) := by
  cases lng <;> exact ⟨rfl, rfl, rfl⟩

theorem EncodesItsRow.edgeKnobPress (lng : Bool) : EncodesItsRow.Statement (.edgeKnobPress lng) := by
  cases lng <;> exact ⟨rfl, rfl, rfl⟩

theorem EncodesItsRow.edgeKnobReleaseShort : EncodesItsRow.Statement (.edgeKnobReleaseShort) := by
  exact ⟨rfl, rfl, rfl⟩

theorem EncodesItsRow.edgeKnobReleaseLong : EncodesItsRow.Statement (.edgeKnobReleaseLong) := by
  exact ⟨rfl, rfl, rfl⟩

theorem EncodesItsRow.edgeKnobHeld (lng : Bool) : EncodesItsRow.Statement (.edgeKnobHeld lng) := by
  cases lng <;> exact ⟨rfl, rfl, rfl⟩

theorem EncodesItsRow.qt0000 : EncodesItsRow.Statement (.qt0000) := by
  exact ⟨rfl, rfl, rfl⟩

theorem EncodesItsRow.qt0001 : EncodesItsRow.Statement (.qt0001) := by
  exact ⟨rfl, rfl, rfl⟩

theorem EncodesItsRow.qt0010 : EncodesItsRow.Statement (.qt0010) := by
  exact ⟨rfl, rfl, rfl⟩

theorem EncodesItsRow.qt0011 : EncodesItsRow.Statement (.qt0011) := by
  exact ⟨rfl, rfl, rfl⟩

theorem EncodesItsRow.qt0100 : EncodesItsRow.Statement (.qt0100) := by
  exact ⟨rfl, rfl, rfl⟩

theorem EncodesItsRow.qt0101 : EncodesItsRow.Statement (.qt0101) := by
  exact ⟨rfl, rfl, rfl⟩

theorem EncodesItsRow.qt0110 : EncodesItsRow.Statement (.qt0110) := by
  exact ⟨rfl, rfl, rfl⟩

theorem EncodesItsRow.qt0111 : EncodesItsRow.Statement (.qt0111) := by
  exact ⟨rfl, rfl, rfl⟩

theorem EncodesItsRow.qt1000 : EncodesItsRow.Statement (.qt1000) := by
  exact ⟨rfl, rfl, rfl⟩

theorem EncodesItsRow.qt1001 : EncodesItsRow.Statement (.qt1001) := by
  exact ⟨rfl, rfl, rfl⟩

theorem EncodesItsRow.qt1010 : EncodesItsRow.Statement (.qt1010) := by
  exact ⟨rfl, rfl, rfl⟩

theorem EncodesItsRow.qt1011 : EncodesItsRow.Statement (.qt1011) := by
  exact ⟨rfl, rfl, rfl⟩

theorem EncodesItsRow.qt1100 : EncodesItsRow.Statement (.qt1100) := by
  exact ⟨rfl, rfl, rfl⟩

theorem EncodesItsRow.qt1101 : EncodesItsRow.Statement (.qt1101) := by
  exact ⟨rfl, rfl, rfl⟩

theorem EncodesItsRow.qt1110 : EncodesItsRow.Statement (.qt1110) := by
  exact ⟨rfl, rfl, rfl⟩

theorem EncodesItsRow.qt1111 : EncodesItsRow.Statement (.qt1111) := by
  exact ⟨rfl, rfl, rfl⟩

end Sys2Proof.Laws
end

