-- ==== Sys2Proof/Laws/Ports.lean ====
section
/-! SUPPORT. What one clock cycle admits, said once: the four kinds of serial form, and when a sample is a
repeat. -/
namespace Sys2Proof.Machine

/-- A sample is a repeat exactly when there is a previous one with the same levels. -/
theorem repeats_iff (c : InPorts) (s : State) :
    c.repeats s = true ↔ s.qvalid = true ∧ s.qprev = sample c.encA c.encB := by
  simp [InPorts.repeats]

/-- No strobe is asserted exactly when the three strobe ports are 0. -/
theorem strobes_eq_nil (c : InPorts) :
    c.strobes = [] ↔ c.msEn = false ∧ c.swqPop = false ∧ c.encqPop = false := by
  cases h1 : c.msEn <;> cases h2 : c.swqPop <;> cases h3 : c.encqPop <;> simp [InPorts.strobes, h1, h2, h3]

/-- Everything a cycle admits: a reset alone; the sample and the strobes in any order; or, the sample being a
repeat, the strobes alone in any order, a `NOP` standing for none. -/
theorem admits_cases (c : InPorts) (s : State) (ws : List StimWord) :
    c.admits s ws = true ↔
      (c.rst = true ∧ ws = [wordReset]) ∨
      (c.rst = false ∧ ws.Perm (c.sampleWord :: c.strobes)) ∨
      (c.rst = false ∧ c.repeats s = true ∧ c.strobes = [] ∧ ws = [wordNop]) ∨
      (c.rst = false ∧ c.repeats s = true ∧ c.strobes ≠ [] ∧ ws.Perm c.strobes) := by
  unfold InPorts.admits
  cases c.rst <;> cases hs : c.strobes <;> simp [List.isPerm_iff]

end Sys2Proof.Machine
end

