-- ==== Sys2Proof/Tests/Slice0.lean ====
section
/-! SUPPORT. Tests of the model against the words and vectors the spec gives, and one witness for each obligation
that has hypotheses. Expected results are those of 95_test_vectors.md and of the tables of 30_encoding.md. -/
namespace Sys2Proof.Machine

/-! ### Decoding: a word for every constructor, written out from the tables of R42, R48, R49, R50 -/

/-- Stimulus words of R42 and R43. -/
theorem test_decode_op : ∀ r ∈ ([
    (0b00000000, .nop), (0b00100001, .msinc false false true), (0b00100110, .msinc true true false),
    (0b01000010, .qsample true false), (0b01000001, .qsample false true), (0b01100000, .popsw),
    (0b10000000, .popenc), (0b11100000, .reset)] : List (StimWord × Instr)),
    decode (.op r.1) = .ok r.2 ∧ encode r.2 = .op r.1 := by decide

/-- Sequencer select words of R48. -/
theorem test_decode_seqt : ∀ r ∈ ([
    (0b000001, .seqIdleHold false true), (0b000110, .seqIdleKey true false), (0b001001, .seqKeywaitAbort false true),
    (0b001110, .seqKeywaitHold true), (0b001101, .seqKeywaitKeyptt), (0b001111, .seqKeywaitKeytune),
    (0b010001, .seqKeyedUnkey false true), (0b010110, .seqKeyedHold true), (0b010111, .seqKeyedTimeout true),
    (0b011100, .seqUnmuteHold true false), (0b011111, .seqUnmuteDone true true), (0b100001, .seqTimedoutExit false true),
    (0b100110, .seqTimedoutHold true false)] : List (SeqtWord × Instr)),
    decode (.seqt r.1) = .ok r.2 ∧ encode r.2 = .seqt r.1 := by decide

/-- Switch edge select words of R49. -/
theorem test_decode_edge : ∀ r ∈ ([
    (0b00001, .edgePttIdle true), (0b00010, .edgePttPress false), (0b00101, .edgePttRelease true),
    (0b00110, .edgePttHeld false), (0b01001, .edgeTuneIdle true), (0b01011, .edgeTunePress true),
    (0b01100, .edgeTuneRelease false), (0b01111, .edgeTuneHeld true), (0b10000, .edgeKnobIdle false),
    (0b10011, .edgeKnobPress true), (0b10100, .edgeKnobReleaseShort), (0b10101, .edgeKnobReleaseLong),
    (0b10111, .edgeKnobHeld true)] : List (EdgeWord × Instr)),
    decode (.edge r.1) = .ok r.2 ∧ encode r.2 = .edge r.1 := by decide

/-- Quadrature select words of R50. -/
theorem test_decode_qt : ∀ r ∈ ([
    (0b0000, .qt0000), (0b0001, .qt0001), (0b0010, .qt0010),
    (0b0011, .qt0011), (0b0100, .qt0100), (0b0101, .qt0101),
    (0b0110, .qt0110), (0b0111, .qt0111), (0b1000, .qt1000),
    (0b1001, .qt1001), (0b1010, .qt1010), (0b1011, .qt1011),
    (0b1100, .qt1100), (0b1101, .qt1101), (0b1110, .qt1110),
    (0b1111, .qt1111)] : List (QtWord × Instr)),
    decode (.qt r.1) = .ok r.2 ∧ encode r.2 = .qt r.1 := by decide

/-- The reserved stimulus words listed in 95_test_vectors.md section 2.4, each refused by name. -/
theorem test_reserved_stimulus : decodeOp 0x01 = .error .nonzeroArg ∧ decodeOp 0x08 = .error .nonzeroZ ∧
    decodeOp 0x28 = .error .nonzeroZ ∧ decodeOp 0x44 = .error .nonzeroArg ∧ decodeOp 0x61 = .error .nonzeroArg ∧
    decodeOp 0xA0 = .error .reservedOp ∧ decodeOp 0xC0 = .error .reservedOp ∧ decodeOp 0xE1 = .error .nonzeroArg ∧
    decodeOp 0xFF = .error .nonzeroZ := by decide

/-- The reserved select codes of R51. -/
theorem test_reserved_select : decodeSeqt 0b101000 = .error .reservedSeqCode ∧
    decodeSeqt 0b110111 = .error .reservedSeqCode ∧ decodeSeqt 0b111111 = .error .reservedSeqCode ∧
    decodeEdge 0b11000 = .error .reservedLine ∧ decodeEdge 0b11111 = .error .reservedLine := by decide

/-- The script spellings of R52. -/
theorem test_script_words : wordMsinc true true true = 0x27 ∧ wordMsinc false true true = 0x23 ∧
    wordMsinc true false true = 0x25 ∧ wordMsinc true true false = 0x26 ∧ wordQ true false = 0x42 ∧
    wordQ false true = 0x41 ∧ wordNop = 0x00 ∧ wordPopsw = 0x60 ∧ wordPopenc = 0x80 ∧ wordReset = 0xE0 := by
  decide

/-! ### Well-formedness: `tsel` without `any` cannot be formed (R48) -/

theorem test_wf_refuses_idleHold : Instr.wf (.seqIdleHold true false) = false := by decide
theorem test_wf_refuses_keywaitAbort : Instr.wf (.seqKeywaitAbort true true) = false := by decide
theorem test_wf_refuses_keyedUnkey : Instr.wf (.seqKeyedUnkey true false) = false := by decide
theorem test_wf_refuses_unmuteHold : Instr.wf (.seqUnmuteHold false true) = false := by decide
theorem test_wf_refuses_unmuteDone : Instr.wf (.seqUnmuteDone false true) = false := by decide
theorem test_wf_refuses_timedoutExit : Instr.wf (.seqTimedoutExit true true) = false := by decide

theorem test_wf_accepts : ∀ i ∈ [Instr.msinc false true false, .seqIdleHold false true, .seqUnmuteHold true true,
    .seqUnmuteDone false false, .edgeKnobReleaseLong, .qt1001], i.wf = true := by decide

/-! ### Vectors -/

/-- Whether an operation completes in a state with the property. -/
def ends (r : Result) (good : State → Bool) : Bool :=
  match r with
  | .next t => good t
  | _ => false

/-- Whether an operation completes in just this state. -/
def endsIn (r : Result) (u : State) : Bool := ends r (fun t => t == u)

/-- The start of the one-tick vectors of sections 2.2 and 2.3: the next `MSINC` has `now` = 1000 and a tick. -/
def vec : State := { State.reset with ms := 999, tdiv := 9 }

/-- V-T1: no tick, so the three pressed pins are ignored. -/
theorem test_msinc_ignores_pins : endsIn (exec (.msinc false false false) State.reset)
    { State.reset with ms := 1, tdiv := 1 } = true := by decide

/-- V-T3b: the clock wraps silently. -/
theorem test_msinc_wraps : endsIn (exec (.msinc true true true) { State.reset with ms := 0xFFFFFFFF, tdiv := 3 })
    { State.reset with ms := 0, tdiv := 4 } = true := by decide

/-- V-H5. -/
theorem test_nop : endsIn (exec .nop vec) vec = true := by decide

/-- V-H1 and V-H2. -/
theorem test_popsw : endsIn (exec .popsw vec) { vec with swRet := some (false, 0) } = true ∧
    endsIn (exec .popsw { vec with swq := [.pttPressed, .pttReleased] })
      { vec with swq := [.pttReleased], swRet := some (true, 1) } = true := by decide

/-- V-H3 and V-H4. -/
theorem test_popenc : endsIn (exec .popenc vec) { vec with encRet := some (false, 0) } = true ∧
    endsIn (exec .popenc { vec with encq := [.minus, .plus] })
      { vec with encq := [.plus], encRet := some (true, 0b11) } = true := by decide

/-- V-H6. -/
theorem test_reset : endsIn (exec .reset { State.reset with
      ms := 123456, tdiv := 7, seq := .keyed, mute := true, pttOut := true, tuneOut := true, deadline := 600260,
      swq := [.pttPressed, .pttPressed, .knobReleased], swErr := 5, qvalid := true, qprev := 0b10, cnt := 2,
      encq := [.minus], encErr := 1 }) State.reset = true := by decide

/-- V-D1: the first sample only loads `QPREV`. -/
theorem test_qsample_first : endsIn (exec (.qsample true true) State.reset)
    { State.reset with qvalid := true, qprev := 0b11 } = true := by decide

/-- V-D9: a full queue drops the pulse and counts it. -/
theorem test_qsample_overflow :
    endsIn (exec (.qsample false false) { State.reset with
      cfg := { Params.default with encqDepth := 2 }, qvalid := true, qprev := 0b01, cnt := 3, encq := [.plus, .plus] })
    { State.reset with
      cfg := { Params.default with encqDepth := 2 }, qvalid := true, qprev := 0b00, cnt := 0, encq := [.plus, .plus],
      encErr := 1 } = true := by decide

/-- V-H8: the error counter wraps, it does not saturate. -/
theorem test_error_counter_wraps :
    endsIn (exec (.edgePttRelease false) { State.reset with
      cfg := { Params.default with errw := 2, swqDepth := 1 }, swq := [.pttPressed], swErr := 3 })
    { State.reset with
      cfg := { Params.default with errw := 2, swqDepth := 1 }, swq := [.pttPressed], swErr := 0 } = true := by decide

/-- Time arithmetic of section 2.1, at `W` = 32 and at the smallest admitted `W` = 21. -/
theorem test_time_arithmetic : tdiff Params.default 0x7FFFFFFF 0 = 2147483647 ∧ tdiff Params.default 0 0 = 0 ∧
    tdiff Params.default 250 260 = -10 ∧ tdiff Params.default 0x000001F4 0xFFFFFE0C = 1000 ∧
    tadd Params.default 0xFFFFFF0A 250 = 4 ∧ tadd Params.default 4 600000 = 600004 ∧
    tadd { Params.default with w := 21 } 2000000 600000 = 502848 ∧
    tdiff { Params.default with w := 21 } 502848 2000000 = 600000 := by decide

/-- V-E5: the four pushes of one tick in order. -/
theorem test_four_pushes : ends (exec (.msinc false true true) { State.reset with
      ms := 4999, tdiv := 9, seq := .keyed, mute := true, pttOut := true, tuneOut := true, deadline := 5000,
      pttQ := false, tuneQ := true, knobQ := true, knobT0 := 4500 })
    (fun t => t == { State.reset with
      ms := 5000, tdiv := 0, seq := .timedOut, deadline := 5000, pttQ := true, knobT0 := 4500,
      swq := [.tuneReleased, .pttPressed, .knobReleased, .txTimedOutEntry] }) = true := by decide

/-- V-E6: with two free slots the first two are delivered, the others counted, the transition taken. -/
theorem test_two_free_slots : ends (exec (.msinc false true true) { State.reset with
      ms := 4999, tdiv := 9, seq := .keyed, mute := true, pttOut := true, tuneOut := true, deadline := 5000,
      pttQ := false, tuneQ := true, knobQ := true, knobT0 := 4500, swq := List.replicate 14 .pttPressed })
    (fun t => t.swq == List.replicate 14 .pttPressed ++ [.tuneReleased, .pttPressed] && t.swErr == 2 &&
      t.seq == .timedOut && !t.mute && !t.pttOut && !t.tuneOut) = true := by decide

/-! One tick for each `SEQT` row, section 2.3: the word formed, and what the tick leaves. -/

/-- A one-tick vector: the start state's own `SEQ`, outputs and deadline, the pins (which the prior samples
already show), the word formed at step 5, and `SEQ`, outputs, deadline and queue after. -/
def seqtVec (s : State) (x : Pins) (T : SeqtWord) (q : SeqState) (m p u : Bool) (dl : Time) (es : List SwEvent) : Bool :=
  let s0 := { s with pttQ := !x.pttN, tuneQ := !x.tuneN }
  seqtWord (!x.pttN) (!x.tuneN) { s0 with ms := 1000 } == T &&
  ends (exec x.instr s0) (fun t => t == { s0 with
    ms := 1000, tdiv := 0, seq := q, mute := m, pttOut := p, tuneOut := u, deadline := dl, swq := es })

theorem test_seq_idleHold : seqtVec { vec with seq := .idle, mute := false, pttOut := false, tuneOut := false, deadline := 0 } ⟨true, true, true⟩
    0b000001 .idle false false false 0 [] = true := by decide

theorem test_seq_idleKey : seqtVec { vec with seq := .idle, mute := false, pttOut := false, tuneOut := false, deadline := 0 } ⟨true, false, true⟩
    0b000111 .keyWait true false false 1250 [] = true := by decide

theorem test_seq_keywaitAbort_at_deadline : seqtVec { vec with seq := .keyWait, mute := true, pttOut := false, tuneOut := false, deadline := 1000 } ⟨true, true, true⟩
    0b001001 .idle false false false 1000 [] = true := by decide

theorem test_seq_keywaitHold : seqtVec { vec with seq := .keyWait, mute := true, pttOut := false, tuneOut := false, deadline := 1260 } ⟨false, true, true⟩
    0b001100 .keyWait true false false 1260 [] = true := by decide

theorem test_seq_keywaitKeyptt_late : seqtVec { vec with seq := .keyWait, mute := true, pttOut := false, tuneOut := false, deadline := 990 } ⟨false, true, true⟩
    0b001101 .keyed true true false 601000 [] = true := by decide

theorem test_seq_keywaitKeyptt_both : seqtVec { vec with seq := .keyWait, mute := true, pttOut := false, tuneOut := false, deadline := 1000, cfg := { Params.default with tuneOutWhenBoth := false } } ⟨false, false, true⟩
    0b001101 .keyed true true false 601000 [] = true := by decide

theorem test_seq_keywaitKeytune_both : seqtVec { vec with seq := .keyWait, mute := true, pttOut := false, tuneOut := false, deadline := 1000 } ⟨false, false, true⟩
    0b001111 .keyed true true true 601000 [] = true := by decide

theorem test_seq_keyedUnkey : seqtVec { vec with seq := .keyed, mute := true, pttOut := true, tuneOut := true, deadline := 600000 } ⟨true, true, true⟩
    0b010000 .unmuteWait true false false 1250 [] = true := by decide

theorem test_seq_keyedHold : seqtVec { vec with seq := .keyed, mute := true, pttOut := true, tuneOut := false, deadline := 600000 } ⟨false, true, true⟩
    0b010100 .keyed true true false 600000 [] = true := by decide

theorem test_seq_keyedTimeout : seqtVec { vec with seq := .keyed, mute := true, pttOut := true, tuneOut := true, deadline := 1000 } ⟨true, false, true⟩
    0b010111 .timedOut false false false 1000 [.txTimedOutEntry] = true := by decide

theorem test_seq_unmuteHold : seqtVec { vec with seq := .unmuteWait, mute := true, pttOut := false, tuneOut := false, deadline := 1010 } ⟨false, true, true⟩
    0b011100 .unmuteWait true false false 1010 [] = true := by decide

theorem test_seq_unmuteDone : seqtVec { vec with seq := .unmuteWait, mute := true, pttOut := false, tuneOut := false, deadline := 1000 } ⟨false, true, true⟩
    0b011101 .idle false false false 1000 [] = true := by decide

theorem test_seq_timedoutExit : seqtVec { vec with seq := .timedOut, mute := false, pttOut := false, tuneOut := false, deadline := 500 } ⟨true, true, true⟩
    0b100001 .idle false false false 500 [.txTimedOutExit] = true := by decide

theorem test_seq_timedoutHold : seqtVec { vec with seq := .timedOut, mute := false, pttOut := false, tuneOut := false, deadline := 500 } ⟨true, false, true⟩
    0b100111 .timedOut false false false 500 [] = true := by decide

/-! One tick for each `EDGE` row, section 2.2: the word of the line, and what the tick leaves. -/

/-- A one-tick vector in TIMED_OUT: prior samples and `KNOB_T0`, pins, the line and the word it forms, and events,
prior samples and `KNOB_T0` after. -/
def edgeVec (p t k : Bool) (t0 : Time) (x : Pins) (l : Line) (E : EdgeWord) (es : List SwEvent) (p' t' k' : Bool)
    (t0' : Time) : Bool :=
  let s0 := { vec with seq := .timedOut, pttQ := p, tuneQ := t, knobQ := k, knobT0 := t0 }
  let cur := match l with
    | .ptt => !x.pttN
    | .tune => !x.tuneN
    | .knob => !x.knobN
  edgeWord l cur { s0 with ms := 1000 } == E &&
  ends (exec x.instr s0) (fun u => u == { s0 with
    ms := 1000, tdiv := 0, pttQ := p', tuneQ := t', knobQ := k', knobT0 := t0', swq := es })

theorem test_edge_pttIdle : edgeVec false true false 0 ⟨true, false, true⟩ .ptt 0b00001 []
    false true false 0 = true := by decide

theorem test_edge_pttPress : edgeVec false true false 0 ⟨false, false, true⟩ .ptt 0b00011 [.pttPressed]
    true true false 0 = true := by decide

theorem test_edge_pttRelease : edgeVec true true false 0 ⟨true, false, true⟩ .ptt 0b00101 [.pttReleased]
    false true false 0 = true := by decide

theorem test_edge_pttHeld : edgeVec true false false 0 ⟨false, true, true⟩ .ptt 0b00111 []
    true false false 0 = true := by decide

theorem test_edge_tuneIdle : edgeVec true false false 0 ⟨false, true, true⟩ .tune 0b01001 []
    true false false 0 = true := by decide

theorem test_edge_tunePress : edgeVec true false false 0 ⟨false, false, true⟩ .tune 0b01011 [.tunePressed]
    true true false 0 = true := by decide

theorem test_edge_tuneRelease : edgeVec true true false 0 ⟨false, true, true⟩ .tune 0b01101 [.tuneReleased]
    true false false 0 = true := by decide

theorem test_edge_tuneHeld : edgeVec false true false 0 ⟨true, false, true⟩ .tune 0b01111 []
    false true false 0 = true := by decide

theorem test_edge_knobIdle : edgeVec false true false 0 ⟨true, false, true⟩ .knob 0b10001 []
    false true false 0 = true := by decide

theorem test_edge_knobPress : edgeVec true false false 0 ⟨false, true, false⟩ .knob 0b10011 []
    true false true 1000 = true := by decide

theorem test_edge_knobReleaseShort : edgeVec true false true 10 ⟨false, true, true⟩ .knob 0b10100 [.knobReleased]
    true false false 10 = true := by decide

theorem test_edge_knobReleaseLong : edgeVec true false true 0 ⟨false, true, true⟩ .knob 0b10101 [.knobReleasedLong]
    true false false 0 = true := by decide

theorem test_edge_knobReleaseLong_across_wrap : edgeVec true false true 0xFFFFFF00 ⟨false, true, true⟩ .knob 0b10101 [.knobReleasedLong]
    true false false 0xFFFFFF00 = true := by decide

theorem test_edge_knobHeld : edgeVec true false true 500 ⟨false, true, false⟩ .knob 0b10110 []
    true false true 500 = true := by decide

/-- All three lines released in one tick (section 2.2): TUNE, PTT, KNOB, then the sequencer's exit. -/
theorem test_all_release : ends (exec (.msinc true true true)
      { vec with seq := .timedOut, pttQ := true, tuneQ := true, knobQ := true, knobT0 := 900 })
    (fun t => t.swq == [.tuneReleased, .pttReleased, .knobReleased, .txTimedOutExit] && t.seq == .idle) = true := by
  decide

/-! The table of section 2.5: each `QT` word from counts 0, 1 and 3. -/

/-- From the three counts: the counts after and the pulses pushed, by the row and by the sample that forms it. -/
def qtVec (i : Instr) (Q : QtWord) (a : Int × List Pulse) (b : Int × List Pulse) (c : Int × List Pulse) : Bool :=
  [((0 : Int), a), (1, b), (3, c)].all (fun r =>
    let s0 := { State.reset with qvalid := true, qprev := Q.extractLsb' 2 2, cnt := r.1 }
    let good := fun (t : State) => t == { s0 with qprev := Q.extractLsb' 0 2, cnt := r.2.1, encq := r.2.2 }
    ends (exec i s0) good && ends (exec (.qsample (Q.getLsbD 1) (Q.getLsbD 0)) s0) good)

theorem test_qt0000 : qtVec .qt0000 0b0000 (0, []) (1, []) (3, []) = true := by decide
theorem test_qt0001 : qtVec .qt0001 0b0001 (3, [.minus]) (0, []) (2, []) = true := by decide
theorem test_qt0010 : qtVec .qt0010 0b0010 (1, []) (2, []) (0, [.plus]) = true := by decide
theorem test_qt0011 : qtVec .qt0011 0b0011 (0, []) (1, []) (3, []) = true := by decide
theorem test_qt0100 : qtVec .qt0100 0b0100 (1, []) (2, []) (0, [.plus]) = true := by decide
theorem test_qt0101 : qtVec .qt0101 0b0101 (0, []) (1, []) (3, []) = true := by decide
theorem test_qt0110 : qtVec .qt0110 0b0110 (0, []) (1, []) (3, []) = true := by decide
theorem test_qt0111 : qtVec .qt0111 0b0111 (3, [.minus]) (0, []) (2, []) = true := by decide
theorem test_qt1000 : qtVec .qt1000 0b1000 (3, [.minus]) (0, []) (2, []) = true := by decide
theorem test_qt1001 : qtVec .qt1001 0b1001 (0, []) (1, []) (3, []) = true := by decide
theorem test_qt1010 : qtVec .qt1010 0b1010 (0, []) (1, []) (3, []) = true := by decide
theorem test_qt1011 : qtVec .qt1011 0b1011 (1, []) (2, []) (0, [.plus]) = true := by decide
theorem test_qt1100 : qtVec .qt1100 0b1100 (0, []) (1, []) (3, []) = true := by decide
theorem test_qt1101 : qtVec .qt1101 0b1101 (1, []) (2, []) (0, [.plus]) = true := by decide
theorem test_qt1110 : qtVec .qt1110 0b1110 (3, [.minus]) (0, []) (2, []) = true := by decide
theorem test_qt1111 : qtVec .qt1111 0b1111 (0, []) (1, []) (3, []) = true := by decide

/-! ### Placing a table word: the next step runs that row -/

/-- Every `OP` word of the table. -/
theorem test_place_op : ∀ w ∈ [0x00, 0x20, 0x27, 0x40, 0x43, 0x60, 0x80, 0xE0],
    (decodeTableWord 8 w).any (fun i => ends (step (State.reset.withFetchWord 8 w)) (fun t =>
      endsIn (exec i State.reset) t)) = true := by decide

/-- Every `SEQT` word that can be formed, by the width of its format: the tick that the next step is forms it. -/
theorem test_place_seqt : ∀ n ∈ (List.range 40).filter (fun n => (n / 2) % 2 ≤ (n / 4) % 2),
    let s := State.reset.withFetchWord 6 n
    s.tdiv = 9 ∧ s.stim.length = 1 ∧ ends (step s) (fun t =>
      seqtWord t.pttQ t.tuneQ { s with ms := 1 } == BitVec.ofNat 6 n && t.ms == 1 && t.stim == []) = true := by
  decide

/-- Every `EDGE` word, by the width of its format. -/
theorem test_place_edge : ∀ n ∈ List.range 24,
    let s := State.reset.withFetchWord 5 n
    let l := if n < 8 then Line.ptt else if n < 16 then .tune else .knob
    s.tdiv = 9 ∧ s.stim.length = 1 ∧ ends (step s) (fun t =>
      edgeWord l (l.prior t) { s with ms := 1 } == BitVec.ofNat 5 n && t.ms == 1 && t.stim == []) = true := by
  decide

/-- Every `QT` word, by the width of its format, and in whole bytes for those that are no stimulus word. -/
theorem test_place_qt : ∀ n ∈ List.range 16,
    ends (step (State.reset.withFetchWord 4 n)) (fun t =>
      qtWord (State.reset.withFetchWord 4 n).qprev t.qprev == BitVec.ofNat 4 n) = true ∧
    (n = 0 ∨ decodeTableWord 8 n = decodeTableWord 4 n) := by decide

/-- In whole bytes: `EDGE` words from 16 on and `SEQT` words no other format claims. -/
theorem test_place_bytes : decodeTableWord 8 0b10010 = some (.edgeKnobPress false) ∧
    decodeTableWord 8 0b10101 = some .edgeKnobReleaseLong ∧
    decodeTableWord 8 0b011001 = some (.seqUnmuteDone false false) ∧ decodeTableWord 8 0xA0 = none := by decide

/-! ### Ports -/

/-- The head ports show 0 on an empty queue and the head's code otherwise (R119). -/
theorem test_ports : State.reset.ports.swqValid = false ∧ State.reset.ports.swqData = 0 ∧
    ({ State.reset with swq := [.knobReleasedLong, .pttPressed], encq := [.minus], seq := .timedOut } : State).ports =
      ⟨false, false, false, true, 6, true, 0b11, 0, 0, 4⟩ := by decide

/-! ### Witnesses: states and operands that meet the hypotheses of each obligation that has any -/

/-- The smallest parameters R5 admits. -/
def small : Params where
  w := 21
  detentThresh := 1
  swqDepth := 1
  encqDepth := 1
  errw := 1
  tuneOutWhenBoth := false

/-- A state in the middle of a transmission, with events and pulses queued and the last count before the wrap. -/
def busy : State := { State.reset with
  ms := 999, tdiv := 9, pttQ := true, seq := .keyed, deadline := 1000, mute := true, pttOut := true, tuneOut := true,
  swq := [.pttPressed, .tunePressed], swErr := 4294967295, qvalid := true, qprev := 0b01, cnt := 3,
  encq := [.plus, .minus], encErr := 4294967295 }

/-- Twelve items: room for just the four a tick can push. -/
def twelve : List SwEvent := List.replicate 12 .pttPressed

/-- PTT held, the other two released. -/
def pttDown : Pins := ⟨false, true, true⟩

/-- Nothing pressed. -/
def allUp : Pins := ⟨true, true, true⟩

theorem witness_DecodedWordIsTheEncoding : decode (.op 0x23) = .ok (.msinc false true true) ∧
    decode (.seqt 0b010111) = .ok (.seqKeyedTimeout true) ∧ decode (.edge 0b10101) = .ok .edgeKnobReleaseLong ∧
    decode (.qt 0b1011) = .ok .qt1011 := by decide

theorem witness_ReservedStimulusWordsAreRefused :
    (busy.setStim [0xA0]).stim = 0xA0 :: [] ∧ decodeOp 0xA0 = .error .reservedOp := by decide

theorem witness_WordMatchesExactlyItsRow : decode (.seqt 0b011111) = .ok (.seqUnmuteDone true true) ∧
    (Instr.seqUnmuteDone false false).row.matchesWord (.seqt 0b011111) = true := by decide

theorem witness_StepRunsTheDecodedOperation : (busy.setStim [0x27, 0x60]).stim = 0x27 :: [0x60] ∧
    decode (.op 0x27) = .ok (.msinc true true true) ∧ busy.stim = [] := by decide

theorem witness_StepTotalOnDefinedWords : (∃ t, step busy = .next t) ∧
    ∃ t, step (busy.setStim [0xE0]) = .next t := ⟨⟨_, rfl⟩, ⟨_, rfl⟩⟩

theorem witness_StepKeepsParametersConsumesOneWord : ∃ t, step (busy.setStim [0x27, 0x60]) = .next t := ⟨_, rfl⟩

theorem witness_ResetStateMeetsInvariants : small.Ok ∧ Params.default.Ok ∧ busy.cfg.Ok := by decide

theorem witness_StepKeepsInvariants : Inv busy ∧ ∃ t, step (busy.setStim [0x23]) = .next t := by
  refine ⟨?_, _, rfl⟩
  constructor <;> decide

theorem witness_TdiffIsSignedDistance : 1 ≤ small.w ∧ -((2 : Int) ^ (small.w - 1)) ≤ ((0 : Nat) : Int) - (1048576 : Nat) ∧
    ((1048575 : Nat) : Int) - (0 : Nat) < (2 : Int) ^ (small.w - 1) := by decide

/-- At the deadline, one count before it, and across the wrap. -/
theorem witness_DeadlineExpiresAtItsTime :
    ∀ r ∈ [((4294967285 : Nat), (11 : Nat), (11 : Nat)), (4294967285, 10, 11), (0, 2147483647, 2147483647)],
      let s := { busy with ms := (r.1 + r.2.1) % 2 ^ 32, deadline := (r.1 + r.2.2) % 2 ^ 32 }
      1 ≤ s.cfg.w ∧ r.2.1 < 2 ^ (s.cfg.w - 1) ∧ r.2.2 < 2 ^ (s.cfg.w - 1) ∧
      s.ms = (r.1 + r.2.1) % 2 ^ s.cfg.w ∧ s.deadline = (r.1 + r.2.2) % 2 ^ s.cfg.w := by decide

theorem witness_MsincCountsOneMillisecond : busy.tdiv = 9 ∧ ({ busy with tdiv := 8 } : State).tdiv ≠ 9 ∧ State.reset.tdiv ≠ 9 := by decide

theorem witness_TickSamplesAndStamps : busy.tdiv = 9 ∧ vec.tdiv = 9 := by decide

theorem witness_TickPushesEventsInOrder : busy.tdiv = 9 ∧ busy.swErr < 2 ^ busy.cfg.errw ∧
    tickEvents busy.nextMs ⟨false, true, true⟩ busy = [.txTimedOutEntry] := by decide

theorem witness_MillisecondsAdvanceClockAndDivider :
    ({ busy with ms := 4294967295 } : State).ms < 2 ^ busy.cfg.w ∧ busy.tdiv.toNat ≤ 9 := by decide

theorem witness_IdleClause : vec.tdiv = 9 ∧ vec.seq = .idle ∧ allUp.released ∧ pttDown.keyDown :=
  ⟨rfl, rfl, ⟨rfl, rfl⟩, .inl rfl⟩

/-- The deadline is 1 count ahead of `now`, and at `now`. -/
theorem witness_KeyWaitClause : let s := { vec with seq := .keyWait, deadline := 1000 }
    let u := { vec with seq := .keyWait, deadline := 1001 }
    s.tdiv = 9 ∧ s.seq = .keyWait ∧ u.seq = .keyWait ∧ allUp.released ∧ pttDown.keyDown ∧
    0 ≤ tdiff s.cfg s.nextMs s.deadline ∧ tdiff u.cfg u.nextMs u.deadline < 0 :=
  ⟨rfl, rfl, rfl, ⟨rfl, rfl⟩, .inl rfl, by decide, by decide +kernel⟩

theorem witness_KeyedClause : let u := { busy with deadline := 1001 }
    busy.tdiv = 9 ∧ busy.seq = .keyed ∧ allUp.released ∧ pttDown.keyDown ∧
    0 ≤ tdiff busy.cfg busy.nextMs busy.deadline ∧ tdiff u.cfg u.nextMs u.deadline < 0 :=
  ⟨rfl, rfl, ⟨rfl, rfl⟩, .inl rfl, by decide, by decide +kernel⟩

theorem witness_UnmuteWaitClause : let s := { vec with seq := .unmuteWait, deadline := 1000 }
    let u := { vec with seq := .unmuteWait, deadline := 1001 }
    s.tdiv = 9 ∧ s.seq = .unmuteWait ∧ u.seq = .unmuteWait ∧ 0 ≤ tdiff s.cfg s.nextMs s.deadline ∧
    tdiff u.cfg u.nextMs u.deadline < 0 := by decide

theorem witness_TimedOutClause : let s := { vec with seq := .timedOut, swq := twelve }
    s.tdiv = 9 ∧ s.seq = .timedOut ∧ allUp.released ∧ pttDown.keyDown ∧ s.swq.length + 4 ≤ s.cfg.swqDepth :=
  ⟨rfl, rfl, ⟨rfl, rfl⟩, .inl rfl, by decide⟩

/-- The last free slot, and no free slot. -/
theorem witness_SequencerTransitionRowsAct : let s := { State.reset with cfg := small }
    let u := { s with swq := [.pttPressed] }
    s.swq.length < s.cfg.swqDepth ∧ u.cfg.swqDepth ≤ u.swq.length := by decide

theorem witness_EdgeRowsAct : let s := { State.reset with cfg := small }
    let u := { s with swq := [.pttPressed] }
    s.swq.length < s.cfg.swqDepth ∧ u.cfg.swqDepth ≤ u.swq.length := by decide

/-- The upward wrap, the downward wrap, and both ends of the range without a wrap. -/
theorem witness_QuadRowsCount : (busy.cfg.detentThresh : Int) ≤ busy.cnt + 1 ∧
    ({ busy with cnt := 0 } : State).cnt + -1 < 0 ∧ 0 ≤ ({ busy with cnt := 0 } : State).cnt + 0 ∧
    busy.cnt + 0 < (busy.cfg.detentThresh : Int) := by decide

theorem witness_TickRunsItsSelectedRows : busy.tdiv = 9 := by decide

theorem witness_SampleRunsItsSelectedRow : busy.qvalid = true := by decide

theorem witness_FirstSampleOnlyLoads : vec.qvalid = false := by decide

theorem witness_SampleCountsAlongTheCycle : busy.qvalid = true ∧ quadMove busy.qprev (sample false false) = 1 ∧
    quadMove busy.qprev (sample true true) = -1 ∧ quadMove busy.qprev (sample true false) = 0 := by decide

theorem witness_RepeatedSampleChangesNothing : busy.qvalid = true ∧ busy.qprev = sample false true ∧ 0 ≤ busy.cnt ∧
    busy.cnt < (busy.cfg.detentThresh : Int) ∧ 0 ≤ ({ busy with cnt := 0 } : State).cnt := by decide

theorem witness_TravelDeterminesCountAndPulses :
    let s := { busy with cfg := { small with encqDepth := 5 }, cnt := 0 }
    1 ≤ s.cfg.detentThresh ∧ s.qvalid = true ∧ 0 ≤ s.cnt ∧ s.cnt < (s.cfg.detentThresh : Int) ∧
    s.encq.length + [(false, false), (true, false), (true, true)].length ≤ s.cfg.encqDepth := by decide

theorem witness_ChatterPulsesOnlyAtZero :
    let s := { busy with cfg := { small with encqDepth := 4 }, cnt := 0 }
    busy.qvalid = true ∧ busy.qprev = sample false true ∧ quadMove (sample false true) (sample true true) = -1 ∧
    0 < busy.cnt ∧ busy.cnt < (busy.cfg.detentThresh : Int) ∧ s.cnt = 0 ∧ s.cnt < (s.cfg.detentThresh : Int) ∧
    s.encq.length + 2 ≤ s.cfg.encqDepth := by decide

theorem witness_PushAppendsOrCounts : let s := { State.reset with cfg := small }
    let u := { s with swq := [.pttPressed], encq := [.plus] }
    s.swq.length < s.cfg.swqDepth ∧ u.cfg.swqDepth ≤ u.swq.length ∧ s.encq.length < s.cfg.encqDepth ∧
    u.cfg.encqDepth ≤ u.encq.length ∧ s.swErr < 2 ^ s.cfg.errw ∧
    ({ u with swErr := 1 } : State).swErr < 2 ^ u.cfg.errw := by decide

theorem witness_ResetSetsEveryRegister :
    (⟨true, true, false, true, true, true, false, true, true⟩ : InPorts).rst = true := by decide

theorem witness_PopswReturnsTheHead : State.reset.swq = [] ∧ busy.swq = .pttPressed :: [.tunePressed] ∧
    ∃ t, exec .popsw busy = .next t := ⟨rfl, rfl, _, rfl⟩

theorem witness_PopencReturnsTheHead : State.reset.encq = [] ∧ busy.encq = .plus :: [.minus] ∧
    ∃ t, exec .popenc busy = .next t := ⟨rfl, rfl, _, rfl⟩

theorem witness_QueuedItemsStayInOrder : (∃ t, step (busy.setStim [wordPopsw]) = .next t) ∧
    (∃ t, step (busy.setStim [wordReset]) = .next t) ∧ ∃ t, step (busy.setStim [pttDown.word]) = .next t :=
  ⟨⟨_, rfl⟩, ⟨_, rfl⟩, ⟨_, rfl⟩⟩

theorem witness_DrainReturnsEventsInOrder : 0 < busy.swq.length ∧ 1 < busy.swq.length := by decide

theorem witness_AgentsWriteOnlyTheirRegisters : (Instr.msinc true true true).agent = .timebase ∧
    (Instr.qt1011).agent = .quadratureSampler ∧ (Instr.popsw).agent = .host ∧ Instr.popsw ≠ .reset := by decide

/-- A cycle with `ms_en`, `swq_pop` and a sample that counts, no tick being due, in two orders. -/
theorem witness_CycleOrderIsImmaterial :
    let c : InPorts := ⟨false, true, false, true, true, true, true, true, false⟩
    let s := { busy with tdiv := 4 }
    c.admits s [wordMsinc false true true, wordQ true true, wordPopsw] = true ∧
    c.admits s [wordPopsw, wordQ true true, wordMsinc false true true] = true ∧
    ¬ (c.pushesSw s ∧ c.swqPop = true) ∧ ¬ (c.pushesEnc s ∧ c.encqPop = true) ∧ c.repeats s = false := by decide

/-- The same cycle with lines that repeat: the sample may be left out, and with no strobe the cycle is `NOP`. -/
theorem witness_CycleOrderIsImmaterial_repeat :
    let c : InPorts := ⟨false, true, false, true, true, false, true, false, false⟩
    let d : InPorts := { c with msEn := false }
    c.admits busy [wordMsinc false true true] = true ∧ c.admits busy [wordQ false true, wordMsinc false true true] = true ∧
    d.admits busy [wordNop] = true ∧ d.admits busy [wordQ false true] = true ∧ c.repeats busy = true ∧
    0 ≤ busy.cnt ∧ busy.cnt < (busy.cfg.detentThresh : Int) := by decide

/-- A cycle whose lines differ from `QPREV`, or whose sample is the first, may not leave its sample out (R65). -/
theorem test_sample_not_omitted :
    (⟨false, true, false, true, true, true, true, false, false⟩ : InPorts).admits busy [wordMsinc false true true] = false ∧
    (⟨false, false, true, true, true, false, false, false, false⟩ : InPorts).admits State.reset [wordNop] = false := by
  decide

theorem witness_CoincidentPushAndPopAgree : let s := { busy with swq := twelve, encq := List.replicate 15 .plus }
    s.swq ≠ [] ∧ s.swq.length + 4 ≤ s.cfg.swqDepth ∧ s.encq ≠ [] ∧ s.encq.length + 1 ≤ s.cfg.encqDepth := by
  decide

theorem witness_ResetCycleAdmitsOnlyReset :
    (⟨true, true, false, true, true, true, false, true, true⟩ : InPorts).rst = true ∧
    (let c : InPorts := ⟨false, false, false, true, true, true, false, false, false⟩
     c.rst = false ∧ c.msEn = false ∧ c.swqPop = false ∧ c.encqPop = false) := by decide

/-- A first sample, a repeat left out, a line change beside an `MSINC`, a reset, and a first sample again. -/
theorem witness_DecoderFollowsEveryClockCycle :
    let idle : InPorts := ⟨false, false, true, true, true, true, false, false, false⟩
    0 ≤ State.reset.cnt ∧ State.reset.cnt < (State.reset.cfg.detentThresh : Int) ∧
    admittedRun [(idle, [wordQ true false]), (idle, [wordNop]),
      ({ idle with msEn := true, encB := true }, [wordMsinc true true true, wordQ true true]),
      ({ idle with rst := true }, [wordReset]), (idle, [wordQ true false])] State.reset = true ∧
    idle.rst = false ∧ idle.encqPop = false := by decide

/-- Two states that differ in queues, counters, prior samples and the decoder. -/
theorem witness_SequencerIgnoresEverythingElse : let s := busy.setStim [pttDown.word]
    let s' := { s with pttQ := false, swq := twelve, swErr := 7, qvalid := false, cnt := 0, encq := [], encErr := 2 }
    SameInputs s s' ∧ SameTime s s' ∧ SameSequencer s s' ∧ (∃ t, step s = .next t) ∧ ∃ t, step s' = .next t :=
  ⟨⟨rfl, rfl⟩, ⟨rfl, rfl⟩, ⟨rfl, rfl, rfl, rfl, rfl⟩, ⟨_, rfl⟩, ⟨_, rfl⟩⟩

/-- Two states that differ in everything but the decoder. -/
theorem witness_DecoderIgnoresEverythingElse : let s := busy.setStim [wordQ false false]
    let s' := { s with ms := 5, tdiv := 2, seq := .idle, swq := [], encq := List.replicate 16 .plus, encErr := 0 }
    SameInputs s s' ∧ SameQuad s s' ∧ (∃ t, step s = .next t) ∧ ∃ t, step s' = .next t :=
  ⟨⟨rfl, rfl⟩, ⟨rfl, rfl, rfl⟩, ⟨_, rfl⟩, ⟨_, rfl⟩⟩

theorem witness_SequencerTakesOnlyListedArcs : (∃ t, step (busy.setStim [allUp.word]) = .next t ∧ t.seq ≠ busy.seq) ∧
    ∃ t, step (busy.setStim [wordReset]) = .next t ∧ t.seq ≠ busy.seq :=
  ⟨⟨_, rfl, by decide⟩, ⟨_, rfl, by decide +kernel⟩⟩

theorem witness_OutputsChangeOnlyAtTickOrReset :
    (∃ t, step (busy.setStim [pttDown.word]) = .next t ∧ ¬ SameOutputs busy t) ∧
    ∃ t, step (busy.setStim [wordReset]) = .next t ∧ ¬ SameOutputs busy t :=
  ⟨⟨_, rfl, by decide⟩, ⟨_, rfl, by decide +kernel⟩⟩

theorem witness_PttOutRisesOnlyAtExpiredKeyWait :
    let s := ({ vec with seq := .keyWait, deadline := 1000 } : State).setStim [pttDown.word]
    s.pttOut = false ∧ ∃ t, step s = .next t ∧ t.pttOut = true := ⟨rfl, _, rfl, by decide⟩

theorem witness_TuneOutLatchedWhileKeyed : let s := { busy with deadline := 1001, stim := [pttDown.word] }
    s.seq = .keyed ∧ ∃ t, step s = .next t ∧ t.seq = .keyed := ⟨rfl, _, rfl, by decide⟩

/-- From the arming tick at `0xFFFFFF0A`, across the wrap of the clock: 249 and 250 more milliseconds. -/
theorem witness_KeyDelayIsExact : let s := { State.reset with ms := 0xFFFFFF0A, seq := .keyWait, mute := true, deadline := 4 }
    s.cfg.Ok ∧ s.seq = .keyWait ∧ s.tdiv = 0 ∧ s.deadline = (s.ms + 250) % 2 ^ s.cfg.w ∧
    (∀ n, ∀ x ∈ List.replicate n pttDown, x.keyDown) ∧ (List.replicate 249 pttDown).length < 250 ∧
    (List.replicate 250 pttDown).length = 250 :=
  ⟨by decide, rfl, rfl, by decide +kernel, fun _ _ h => List.eq_of_mem_replicate h ▸ .inl rfl,
    by rw [List.length_replicate]; decide, List.length_replicate⟩

theorem witness_StuckKeyTimesOutOnce :
    let s := { State.reset with
      cfg := { Params.default with swqDepth := 240000 }, ms := 260, seq := .keyed, mute := true, pttOut := true,
      deadline := 600260 }
    s.cfg.Ok ∧ s.seq = .keyed ∧ s.tdiv = 0 ∧ s.deadline = (s.ms + 600000) % 2 ^ s.cfg.w ∧
    (∀ n, ∀ x ∈ List.replicate n pttDown, x.keyDown) ∧ (List.replicate 599999 pttDown).length < 600000 ∧
    600000 ≤ (List.replicate 600000 pttDown).length ∧
    s.swq.length + 4 * ((List.replicate 600000 pttDown).length / 10) ≤ s.cfg.swqDepth :=
  ⟨by decide, rfl, rfl, by decide +kernel, fun _ _ h => List.eq_of_mem_replicate h ▸ .inl rfl,
    by rw [List.length_replicate]; decide, by rw [List.length_replicate],
    by rw [List.length_replicate]; decide⟩

theorem witness_UnmuteDelayIsExact :
    let s := { State.reset with cfg := small, ms := 2097151, seq := .unmuteWait, mute := true, deadline := 249 }
    s.cfg.Ok ∧ s.seq = .unmuteWait ∧ s.tdiv = 0 ∧ s.deadline = (s.ms + 250) % 2 ^ s.cfg.w ∧
    (List.replicate 249 allUp).length < 250 ∧ (List.replicate 250 pttDown).length = 250 :=
  ⟨by decide, rfl, rfl, by decide +kernel, by rw [List.length_replicate]; decide, List.length_replicate⟩

/-- Held 999, 1000, just below half the range, half the range, and just below the whole range. -/
theorem witness_KnobHoldIsClassified : ∀ h ∈ [999, 1000, 2147483647, 2147483648, 4294967295],
    let s := { vec with knobQ := true, knobT0 := (4294968296 - h) % 2 ^ 32, swq := twelve }
    s.cfg.Ok ∧ s.tdiv = 9 ∧ s.knobQ = true ∧ allUp.knobN = true ∧ h < 2 ^ s.cfg.w ∧
    s.nextMs = (s.knobT0 + h) % 2 ^ s.cfg.w ∧ s.swq.length + 4 ≤ s.cfg.swqDepth := by decide

end Sys2Proof.Machine
end

section
/-! PROOFS. The scope family, first part: what each agent's instructions leave unchanged, and the frame of a step. -/
namespace Sys2Proof.Machine

/-! ### What each agent leaves unchanged -/

/-- What a timebase instruction leaves alone: the inputs, the decoder with its queue, and what pops returned (R6, R25). -/
def TimebaseFrame (s t : State) : Prop := SameInputs s t ∧ SameQuad s t ∧ SameEnc s t ∧ SameReturns s t

/-- What a quadrature instruction leaves alone: the inputs, everything the timebase writes, and what pops returned
(R6, R25). -/
def QuadratureFrame (s t : State) : Prop :=
  SameInputs s t ∧ SameTime s t ∧ SameSampler s t ∧ SameSequencer s t ∧ SameSw s t ∧ SameReturns s t

/-- What a host instruction other than `RESET` leaves alone, each queue losing its head at most (R6, R25). -/
def HostFrame (s t : State) : Prop :=
  SameInputs s t ∧ SameTime s t ∧ SameSampler s t ∧ SameSequencer s t ∧ SameQuad s t ∧ t.swErr = s.swErr ∧
    t.encErr = s.encErr ∧ (t.swq = s.swq ∨ t.swq = s.swq.tail) ∧ (t.encq = s.encq ∨ t.encq = s.encq.tail)

@[simp] theorem timebaseFrame_iff (s t : State) : TimebaseFrame s t ↔
    (t.cfg = s.cfg ∧ t.stim = s.stim) ∧ (t.qvalid = s.qvalid ∧ t.qprev = s.qprev ∧ t.cnt = s.cnt) ∧
      (t.encq = s.encq ∧ t.encErr = s.encErr) ∧ t.swRet = s.swRet ∧ t.encRet = s.encRet := Iff.rfl

@[simp] theorem quadratureFrame_iff (s t : State) : QuadratureFrame s t ↔
    (t.cfg = s.cfg ∧ t.stim = s.stim) ∧ (t.ms = s.ms ∧ t.tdiv = s.tdiv) ∧
      (t.pttQ = s.pttQ ∧ t.tuneQ = s.tuneQ ∧ t.knobQ = s.knobQ ∧ t.knobT0 = s.knobT0) ∧
      (t.seq = s.seq ∧ t.deadline = s.deadline ∧ t.mute = s.mute ∧ t.pttOut = s.pttOut ∧ t.tuneOut = s.tuneOut) ∧
      (t.swq = s.swq ∧ t.swErr = s.swErr) ∧ t.swRet = s.swRet ∧ t.encRet = s.encRet := Iff.rfl

@[simp] theorem hostFrame_iff (s t : State) : HostFrame s t ↔
    (t.cfg = s.cfg ∧ t.stim = s.stim) ∧ (t.ms = s.ms ∧ t.tdiv = s.tdiv) ∧
      (t.pttQ = s.pttQ ∧ t.tuneQ = s.tuneQ ∧ t.knobQ = s.knobQ ∧ t.knobT0 = s.knobT0) ∧
      (t.seq = s.seq ∧ t.deadline = s.deadline ∧ t.mute = s.mute ∧ t.pttOut = s.pttOut ∧ t.tuneOut = s.tuneOut) ∧
      (t.qvalid = s.qvalid ∧ t.qprev = s.qprev ∧ t.cnt = s.cnt) ∧ t.swErr = s.swErr ∧ t.encErr = s.encErr ∧
      (t.swq = s.swq ∨ t.swq = s.swq.tail) ∧ (t.encq = s.encq ∨ t.encq = s.encq.tail) := Iff.rfl

/-- `RESET` writes registers only: the inputs and what pops returned stay (R118). -/
theorem resetBlock_frame (s : State) : SameInputs s (resetBlock s) ∧ SameReturns s (resetBlock s) :=
  ⟨⟨rfl, rfl⟩, rfl, rfl⟩

/-- A timebase instruction completes within its frame: a row that holds, one that pushes, the KNOB stamp, or a
transition of the sequencer. -/
theorem exec_timebase {i : Instr} (h : i.agent = .timebase) (s : State) :
    ∃ t, exec i s = .next t ∧ TimebaseFrame s t := by
  cases i with
  | msinc x y z => exact ⟨msinc x y z s, rfl, by simp⟩
  | seqIdleHold | seqKeywaitHold | seqKeyedHold | seqUnmuteHold | seqTimedoutHold
  | edgePttIdle | edgePttHeld | edgeTuneIdle | edgeTuneHeld | edgeKnobIdle | edgeKnobHeld =>
    exact ⟨s, rfl, by simp⟩
  | edgePttPress | edgePttRelease | edgeTunePress | edgeTuneRelease | edgeKnobReleaseShort | edgeKnobReleaseLong =>
    exact ⟨pushSw _ s, rfl, by simp⟩
  | edgeKnobPress => exact ⟨s.setKnobT0 s.ms, rfl, by simp⟩
  | seqIdleKey => exact ⟨seqIdleKey s, rfl, by simp⟩
  | seqKeywaitAbort => exact ⟨seqKeywaitAbort s, rfl, by simp⟩
  | seqKeywaitKeyptt | seqKeywaitKeytune => exact ⟨seqEnterKeyed _ s, rfl, by simp⟩
  | seqKeyedUnkey => exact ⟨seqKeyedUnkey s, rfl, by simp⟩
  | seqKeyedTimeout => exact ⟨seqKeyedTimeout s, rfl, by simp⟩
  | seqUnmuteDone => exact ⟨seqUnmuteDone s, rfl, by simp⟩
  | seqTimedoutExit => exact ⟨seqTimedoutExit s, rfl, by simp⟩
  | _ => cases h

/-- A quadrature instruction completes within its frame: the sample itself, or a row that accumulates its count. -/
theorem exec_quadratureSampler {i : Instr} (h : i.agent = .quadratureSampler) (s : State) :
    ∃ t, exec i s = .next t ∧ QuadratureFrame s t := by
  cases i with
  | qsample a b => exact ⟨qsample a b s, rfl, by simp⟩
  | qt0000 | qt0001 | qt0010 | qt0011 | qt0100 | qt0101 | qt0110 | qt0111
  | qt1000 | qt1001 | qt1010 | qt1011 | qt1100 | qt1101 | qt1110 | qt1111 =>
    exact ⟨quadAccumulate _ _ s, rfl, by simp⟩
  | _ => cases h

/-- A host instruction completes: `RESET` as it does, the others within the host's frame. -/
theorem exec_host {i : Instr} (h : i.agent = .host) (s : State) :
    ∃ t, exec i s = .next t ∧ ((i = .reset ∧ t = resetBlock s) ∨ (i ≠ .reset ∧ HostFrame s t)) := by
  cases i with
  | nop => exact ⟨s, rfl, .inr ⟨nofun, by simp⟩⟩
  | popsw => exact ⟨popsw s, rfl, .inr ⟨nofun, by simp⟩⟩
  | popenc => exact ⟨popenc s, rfl, .inr ⟨nofun, by simp⟩⟩
  | reset => exact ⟨_, rfl, .inl ⟨rfl, rfl⟩⟩
  | _ => cases h

/-- Settles O41, agent by agent. -/
theorem agentsWriteOnlyTheirRegisters : Obligations.AgentsWriteOnlyTheirRegisters := by
  intro i s
  cases h : i.agent with
  | timebase =>
    obtain ⟨t, ht, inputs, quad, enc, returns⟩ := exec_timebase h s
    refine ⟨t, ht, inputs, fun _ => ⟨quad, enc, returns⟩, nofun, nofun, fun _ => returns⟩
  | quadratureSampler =>
    obtain ⟨t, ht, inputs, time, sampler, sequencer, sw, returns⟩ := exec_quadratureSampler h s
    exact ⟨t, ht, inputs, nofun, fun _ => ⟨time, sampler, sequencer, sw, returns⟩, nofun, fun _ => returns⟩
  | host =>
    obtain ⟨t, ht, ⟨rfl, rfl⟩ | ⟨notReset, inputs, rest⟩⟩ := exec_host h s
    · obtain ⟨inputs, returns⟩ := resetBlock_frame s
      exact ⟨_, ht, inputs, nofun, nofun, fun _ hr => absurd rfl hr, fun _ => returns⟩
    · exact ⟨t, ht, inputs, nofun, nofun, fun _ _ => rest, fun hr => absurd hr notReset⟩

/-! ### The frame of a step -/

/-- Every instruction leaves the parameters and the stimulus still to come. -/
theorem exec_sameInputs {i : Instr} {s t : State} (h : exec i s = .next t) : SameInputs s t := by
  obtain ⟨u, hu, inputs, -⟩ := agentsWriteOnlyTheirRegisters i s
  obtain rfl : u = t := by rw [hu] at h; injection h
  exact inputs

/-- Settles O8: a step is the `NOP` of an empty list, or an instruction run on the state with its word consumed. -/
theorem stepKeepsParametersConsumesOneWord : Obligations.StepKeepsParametersConsumesOneWord := by
  intro s t h
  cases hs : s.stim with
  | nil =>
    rw [step_of_nil hs] at h
    injection h with h
    exact h ▸ ⟨rfl, hs⟩
  | cons S rest =>
    cases hd : decodeOp S with
    | error e => rw [step_of_error hs hd] at h; cases h
    | ok i =>
      rw [step_of_ok hs hd] at h
      exact exec_sameInputs h

end Sys2Proof.Machine
end

section
/-! PROOFS. The scope family, second part: the orders of one clock cycle. The switch side (`MSINC`, `POPSW`) and the
decoder side (`QSAMPLE`, `POPENC`) share no register, so they commute; inside a side a producer commutes with the pop of
its queue when it does not push. -/
namespace Sys2Proof.Machine

/-! ### What a word of the stimulus leads to -/

/-- The state a defined stimulus word leads to; a reserved word is refused and leads nowhere. -/
def wordEffect (w : StimWord) (s : State) : State :=
  match runWords [w] s with
  | .next t => t
  | _ => s

/-- A word runs as the function its instruction is, when that function does not look at the stimulus. -/
theorem runWords_cons_eq {w : StimWord} {i : Instr} {f : State → State} (hd : decodeOp w = .ok i)
    (he : ∀ u, exec i u = .next (f u)) (hf : ∀ us u, f (u.setStim us) = (f u).setStim us)
    (ws : List StimWord) (s : State) : runWords (w :: ws) s = runWords ws (f s) := by
  have hstim : ((f s).setStim (ws ++ s.stim)).setStim s.stim = f s := (hf s.stim s).symm
  rw [runWords_cons hd (t := (f s).setStim (ws ++ s.stim)) (by rw [he, hf]) rfl, hstim]

@[simp] theorem runWords_msinc (x y z : Bool) (ws : List StimWord) (s : State) :
    runWords (wordMsinc x y z :: ws) s = runWords ws (msinc x y z s) :=
  runWords_cons_eq (decodeOp_msinc x y z) (fun _ => rfl) (msinc_setStim x y z) ws s

@[simp] theorem runWords_q (a b : Bool) (ws : List StimWord) (s : State) :
    runWords (wordQ a b :: ws) s = runWords ws (qsample a b s) :=
  runWords_cons_eq (decodeOp_q a b) (fun _ => rfl) (qsample_setStim a b) ws s

@[simp] theorem runWords_popsw (ws : List StimWord) (s : State) :
    runWords (wordPopsw :: ws) s = runWords ws (popsw s) :=
  runWords_cons_eq decodeOp_popsw (fun _ => rfl) (fun _ _ => rfl) ws s

@[simp] theorem runWords_popenc (ws : List StimWord) (s : State) :
    runWords (wordPopenc :: ws) s = runWords ws (popenc s) :=
  runWords_cons_eq decodeOp_popenc (fun _ => rfl) (fun _ _ => rfl) ws s

@[simp] theorem runWords_nop (ws : List StimWord) (s : State) : runWords (wordNop :: ws) s = runWords ws s :=
  runWords_cons_eq (f := id) decodeOp_nop (fun _ => rfl) (fun _ _ => rfl) ws s

@[simp] theorem runWords_reset (ws : List StimWord) (s : State) :
    runWords (wordReset :: ws) s = runWords ws (resetBlock s) :=
  runWords_cons_eq decodeOp_reset (fun _ => rfl) (fun _ _ => rfl) ws s

@[simp] theorem wordEffect_msinc (x y z : Bool) (s : State) : wordEffect (wordMsinc x y z) s = msinc x y z s := by
  simp [wordEffect, runWords_nil]

@[simp] theorem wordEffect_q (a b : Bool) (s : State) : wordEffect (wordQ a b) s = qsample a b s := by
  simp [wordEffect, runWords_nil]

@[simp] theorem wordEffect_popsw (s : State) : wordEffect wordPopsw s = popsw s := by
  simp [wordEffect, runWords_nil]

@[simp] theorem wordEffect_popenc (s : State) : wordEffect wordPopenc s = popenc s := by
  simp [wordEffect, runWords_nil]

/-! ### The two sides of the block -/

/-- `s` with the decoder, its queue and what `POPENC` returned taken from `r`. -/
def State.withDecoderOf (s r : State) : State :=
  { s with qvalid := r.qvalid, qprev := r.qprev, cnt := r.cnt, encq := r.encq, encErr := r.encErr, encRet := r.encRet }

theorem State.withDecoderOf_cfg (s r : State) : (s.withDecoderOf r).cfg = s.cfg := rfl
theorem State.withDecoderOf_pttQ (s r : State) : (s.withDecoderOf r).pttQ = s.pttQ := rfl
theorem State.withDecoderOf_tuneQ (s r : State) : (s.withDecoderOf r).tuneQ = s.tuneQ := rfl
theorem State.withDecoderOf_knobQ (s r : State) : (s.withDecoderOf r).knobQ = s.knobQ := rfl
theorem State.withDecoderOf_seq (s r : State) : (s.withDecoderOf r).seq = s.seq := rfl
theorem State.withDecoderOf_qvalid (s r : State) : (s.withDecoderOf r).qvalid = r.qvalid := rfl
theorem State.withDecoderOf_qprev (s r : State) : (s.withDecoderOf r).qprev = r.qprev := rfl
theorem State.withDecoderOf_cnt (s r : State) : (s.withDecoderOf r).cnt = r.cnt := rfl
theorem longPress_withDecoderOf (s r : State) : longPress (s.withDecoderOf r) = longPress s := rfl
theorem expired_withDecoderOf (s r : State) : expired (s.withDecoderOf r) = expired s := rfl
theorem tickDue_withDecoderOf (s r : State) : tickDue (s.withDecoderOf r) = tickDue s := rfl

theorem sampleTune_withDecoderOf (t : Bool) (s r : State) :
    sampleTune t (s.withDecoderOf r) = (sampleTune t s).withDecoderOf r := by
  unfold sampleTune
  rw [State.withDecoderOf_tuneQ]
  cases s.tuneQ <;> cases t <;> rfl

theorem samplePtt_withDecoderOf (p : Bool) (s r : State) :
    samplePtt p (s.withDecoderOf r) = (samplePtt p s).withDecoderOf r := by
  unfold samplePtt
  rw [State.withDecoderOf_pttQ]
  cases s.pttQ <;> cases p <;> rfl

theorem sampleKnob_withDecoderOf (k : Bool) (s r : State) :
    sampleKnob k (s.withDecoderOf r) = (sampleKnob k s).withDecoderOf r := by
  unfold sampleKnob
  rw [State.withDecoderOf_knobQ, longPress_withDecoderOf]
  cases s.knobQ <;> cases k <;> cases longPress s <;> rfl

theorem seqStep_withDecoderOf (p t : Bool) (s r : State) :
    seqStep p t (s.withDecoderOf r) = (seqStep p t s).withDecoderOf r := by
  unfold seqStep
  rw [State.withDecoderOf_seq, State.withDecoderOf_cfg, expired_withDecoderOf]
  cases s.seq <;> cases anyKey p t <;> cases expired s <;> cases tselKey s.cfg p t <;> rfl

theorem tick_withDecoderOf (x y z : Bool) (s r : State) :
    tick x y z (s.withDecoderOf r) = (tick x y z s).withDecoderOf r := by
  simp only [tick, samplerStep, sampleTune_withDecoderOf, samplePtt_withDecoderOf, sampleKnob_withDecoderOf]
  exact seqStep_withDecoderOf _ _ (State.setPrior _ _ _ _) r

/-- An `MSINC` neither reads nor writes the decoder side. -/
theorem msinc_withDecoderOf (x y z : Bool) (s r : State) :
    msinc x y z (s.withDecoderOf r) = (msinc x y z s).withDecoderOf r := by
  unfold msinc
  rw [tickDue_withDecoderOf]
  cases tickDue s with
  | false => rfl
  | true => exact tick_withDecoderOf x y z ((advanceMs s).setTdiv 0) r

theorem pushEnc_withDecoderOf (p : Pulse) {s r : State} (h : r.cfg = s.cfg) :
    pushEnc p (s.withDecoderOf r) = s.withDecoderOf (pushEnc p r) := by
  simp only [pushEnc, h]
  rfl

theorem quadAccumulate_withDecoderOf (d : Int) (cur : BitVec 2) {s r : State} (h : r.cfg = s.cfg) :
    quadAccumulate d cur (s.withDecoderOf r) = s.withDecoderOf (quadAccumulate d cur r) := by
  simp only [quadAccumulate]
  rw [State.withDecoderOf_cfg, State.withDecoderOf_cnt, h]
  split_ifs
  · exact pushEnc_withDecoderOf .plus (r := (r.setQprev cur).setCnt _) h
  · exact pushEnc_withDecoderOf .minus (r := (r.setQprev cur).setCnt _) h
  · rfl

/-- A `QSAMPLE` reads and writes the decoder side alone, the parameters aside. -/
theorem qsample_withDecoderOf (a b : Bool) {s r : State} (h : r.cfg = s.cfg) :
    qsample a b (s.withDecoderOf r) = s.withDecoderOf (qsample a b r) := by
  simp only [qsample, quadAccumulate_withDecoderOf _ _ h]
  rw [State.withDecoderOf_qvalid, State.withDecoderOf_qprev]
  cases r.qvalid <;> rfl

/-- The words of a cycle that act on the switch side. -/
def InPorts.SwitchWord (c : InPorts) (w : StimWord) : Prop := w = wordMsinc c.pttN c.tuneN c.knobN ∨ w = wordPopsw

/-- The words of a cycle that act on the decoder side. -/
def InPorts.DecoderWord (c : InPorts) (w : StimWord) : Prop := w = c.sampleWord ∨ w = wordPopenc

theorem InPorts.SwitchWord.effect_withDecoderOf {c : InPorts} {w : StimWord} (h : c.SwitchWord w) (s r : State) :
    wordEffect w (s.withDecoderOf r) = (wordEffect w s).withDecoderOf r := by
  rcases h with rfl | rfl
  · simp [msinc_withDecoderOf]
  · simp only [wordEffect_popsw]; rfl

theorem InPorts.SwitchWord.effect_cfg {c : InPorts} {w : StimWord} (h : c.SwitchWord w) (s : State) :
    (wordEffect w s).cfg = s.cfg := by
  rcases h with rfl | rfl <;> simp

theorem InPorts.DecoderWord.effect_withDecoderOf {c : InPorts} {w : StimWord} (h : c.DecoderWord w) {s r : State}
    (hcfg : r.cfg = s.cfg) : wordEffect w (s.withDecoderOf r) = s.withDecoderOf (wordEffect w r) := by
  rcases h with rfl | rfl
  · simp [InPorts.sampleWord, qsample_withDecoderOf _ _ hcfg]
  · simp only [wordEffect_popenc]; rfl

/-- A switch word writes the switch side only. -/
theorem InPorts.SwitchWord.effect_eq {c : InPorts} {w : StimWord} (h : c.SwitchWord w) (s : State) :
    wordEffect w s = (wordEffect w s).withDecoderOf s := h.effect_withDecoderOf s s

/-- A decoder word writes the decoder side only. -/
theorem InPorts.DecoderWord.effect_eq {c : InPorts} {w : StimWord} (h : c.DecoderWord w) (s : State) :
    wordEffect w s = s.withDecoderOf (wordEffect w s) := h.effect_withDecoderOf (s := s) rfl

/-- Words of different sides commute: both orders give the switch side of the one and the decoder side of the other. -/
theorem wordEffect_comm_of_sides {c : InPorts} {v w : StimWord} (hv : c.SwitchWord v) (hw : c.DecoderWord w)
    (s : State) : wordEffect v (wordEffect w s) = wordEffect w (wordEffect v s) := by
  calc wordEffect v (wordEffect w s)
      = wordEffect v (s.withDecoderOf (wordEffect w s)) := by rw [← hw.effect_eq]
    _ = (wordEffect v s).withDecoderOf (wordEffect w s) := hv.effect_withDecoderOf _ _
    _ = wordEffect w ((wordEffect v s).withDecoderOf s) := (hw.effect_withDecoderOf (hv.effect_cfg s).symm).symm
    _ = wordEffect w (wordEffect v s) := by rw [← hv.effect_eq]

/-! ### A producer that does not push commutes with the pop of its queue -/

/-- A tick has no events exactly when TUNE and PTT are as before, KNOB is not released, and the sequencer is at neither
of the transitions that push (R72, R80, R94, R98). -/
theorem tickEvents_eq_nil_iff (now : Time) (x : Pins) (s : State) :
    tickEvents now x s = [] ↔ s.tuneQ = asserted x.tuneN ∧ s.pttQ = asserted x.pttN ∧
      ¬ (s.knobQ = true ∧ asserted x.knobN = false) ∧
      ¬ (s.seq = .keyed ∧ anyKey (asserted x.pttN) (asserted x.tuneN) = true ∧ 0 ≤ tdiff s.cfg now s.deadline) ∧
      ¬ (s.seq = .timedOut ∧ anyKey (asserted x.pttN) (asserted x.tuneN) = false) := by
  obtain ⟨p, t, k⟩ := x
  cases p <;> cases t <;> simp [tickEvents, asserted, anyKey]

theorem sampleTune_of_eq {t : Bool} {s : State} (h : s.tuneQ = t) : sampleTune t s = s := by
  rcases sampleTune_cases t s with ⟨hq, rfl, -⟩ | ⟨hq, rfl, -⟩ | ⟨-, hs⟩
  · simp [hq] at h
  · simp [hq] at h
  · exact hs

theorem samplePtt_of_eq {p : Bool} {s : State} (h : s.pttQ = p) : samplePtt p s = s := by
  rcases samplePtt_cases p s with ⟨hq, rfl, -⟩ | ⟨hq, rfl, -⟩ | ⟨-, hs⟩
  · simp [hq] at h
  · simp [hq] at h
  · exact hs

theorem sampleKnob_popsw {k : Bool} {s : State} (h : ¬ (s.knobQ = true ∧ k = false)) :
    sampleKnob k (popsw s) = popsw (sampleKnob k s) := by
  unfold sampleKnob
  rw [popsw_knobQ]
  cases hq : s.knobQ <;> cases k
  · rfl
  · rfl
  · exact absurd ⟨hq, rfl⟩ h
  · rfl

theorem seqStep_popsw {p t : Bool} {s : State} (hk : ¬ (s.seq = .keyed ∧ anyKey p t = true ∧ expired s = true))
    (ht : ¬ (s.seq = .timedOut ∧ anyKey p t = false)) : seqStep p t (popsw s) = popsw (seqStep p t s) := by
  unfold seqStep
  rw [popsw_seq, popsw_cfg, show expired (popsw s) = expired s from rfl]
  cases hs : s.seq with
  | idle => cases anyKey p t <;> rfl
  | keyWait => cases anyKey p t <;> cases expired s <;> cases tselKey s.cfg p t <;> rfl
  | keyed =>
    cases ha : anyKey p t <;> cases he : expired s
    · rfl
    · rfl
    · rfl
    · exact absurd ⟨hs, ha, he⟩ hk
  | unmuteWait => cases expired s <;> rfl
  | timedOut =>
    cases ha : anyKey p t
    · exact absurd ⟨hs, ha⟩ ht
    · rfl

/-- A tick without events commutes with a pop of the event queue. -/
theorem tick_popsw {x : Pins} {s : State} (h : tickEvents s.ms x s = []) :
    tick x.pttN x.tuneN x.knobN (popsw s) = popsw (tick x.pttN x.tuneN x.knobN s) := by
  obtain ⟨hTune, hPtt, hKnob, hKeyed, hTimedOut⟩ := (tickEvents_eq_nil_iff _ _ _).mp h
  simp only [tick, samplerStep, sampleTune_of_eq hTune, sampleTune_of_eq (s := popsw s) hTune, samplePtt_of_eq hPtt,
    samplePtt_of_eq (s := popsw s) hPtt, sampleKnob_popsw hKnob]
  refine seqStep_popsw (s := (sampleKnob (asserted x.knobN) s).setPrior _ _ _) ?_ ?_
  · simpa [expired] using hKeyed
  · simpa using hTimedOut

/-- An `MSINC` that pushes no event commutes with a pop of the event queue. -/
theorem msinc_popsw {c : InPorts} {s : State} (hen : c.msEn = true) (h : ¬ c.pushesSw s) :
    msinc c.pttN c.tuneN c.knobN (popsw s) = popsw (msinc c.pttN c.tuneN c.knobN s) := by
  unfold msinc
  rw [show tickDue (popsw s) = tickDue s from rfl]
  cases hd : tickDue s with
  | false => rfl
  | true =>
    have hevents : tickEvents s.nextMs c.pins s = [] := by
      by_contra hne
      exact h ⟨hen, by simpa [tickDue, tickMs] using hd, hne⟩
    have hnow : tadd s.cfg s.ms 1 = s.nextMs := by rw [tadd, Nat.add_comm, State.nextMs]
    exact tick_popsw (x := c.pins) (s := (advanceMs s).setTdiv 0) (by rw [← hevents, ← hnow]; rfl)

/-- The table of R50 counts the movement along the cycle. -/
theorem quadCount_qtWord : ∀ prev cur : BitVec 2, quadCount (qtWord prev cur) = quadMove prev cur := by decide

theorem quadMove_self (x : BitVec 2) : quadMove x x = 0 := by revert x; decide

/-- A sample that pushes no pulse adds its movement to the count (R64). -/
theorem qsample_of_not_pushesEnc {c : InPorts} {s : State} (hv : s.qvalid = true) (h : ¬ c.pushesEnc s) :
    qsample c.encA c.encB s =
      (s.setQprev (sample c.encA c.encB)).setCnt (s.cnt + quadMove s.qprev (sample c.encA c.encB)) := by
  obtain ⟨hlow, hnonneg⟩ := not_or.mp fun hc => h ⟨hv, hc⟩
  simp only [qsample, hv, quadCount_qtWord, quadAccumulate, if_neg hlow, if_neg hnonneg, if_true]

/-- A sample that pushes no pulse commutes with a pop of the pulse queue. -/
theorem qsample_popenc {c : InPorts} {s : State} (h : ¬ c.pushesEnc s) :
    qsample c.encA c.encB (popenc s) = popenc (qsample c.encA c.encB s) := by
  cases hv : s.qvalid with
  | false => simp only [qsample, popenc_qvalid, hv]; rfl
  | true =>
    rw [qsample_of_not_pushesEnc hv h, qsample_of_not_pushesEnc (s := popenc s) hv h]
    rfl

/-- A sample that repeats changes nothing while the count is in range (R59). -/
theorem qsample_of_repeats {c : InPorts} {s : State} (h : c.repeats s = true)
    (hcnt : 0 ≤ s.cnt ∧ s.cnt < (s.cfg.detentThresh : Int)) : qsample c.encA c.encB s = s := by
  obtain ⟨hv, hprev⟩ := (repeats_iff c s).mp h
  have hmove : s.cnt + quadMove s.qprev (sample c.encA c.encB) = s.cnt := by rw [hprev, quadMove_self, Int.add_zero]
  have hno : ¬ c.pushesEnc s := by
    rintro ⟨-, hpush⟩
    omega
  rw [qsample_of_not_pushesEnc hv hno, hmove, ← hprev]
  rfl

/-! ### What remains of a cycle -/

/-- The words `ws` may be what remains of the cycle `c` in the state `s`: each once, and no producer that would push
now beside the pop of its queue. -/
structure InPorts.Pending (c : InPorts) (ws : List StimWord) (s : State) : Prop where
  nodup : ws.Nodup
  sides : ∀ w ∈ ws, c.SwitchWord w ∨ c.DecoderWord w
  switchFree : wordMsinc c.pttN c.tuneN c.knobN ∈ ws → wordPopsw ∈ ws → c.msEn = true ∧ ¬ c.pushesSw s
  decoderFree : c.sampleWord ∈ ws → wordPopenc ∈ ws → ¬ c.pushesEnc s

/-- Whether an `MSINC` pushes is decided on the switch side. -/
theorem pushesSw_withDecoderOf (c : InPorts) (s r : State) : c.pushesSw (s.withDecoderOf r) ↔ c.pushesSw s := Iff.rfl

/-- Whether a sample pushes is decided on the decoder side. -/
theorem pushesEnc_withDecoderOf (c : InPorts) {s r : State} (h : s.cfg = r.cfg) :
    c.pushesEnc (s.withDecoderOf r) ↔ c.pushesEnc r := by
  simp only [InPorts.pushesEnc, State.withDecoderOf_cfg, State.withDecoderOf_qvalid, State.withDecoderOf_qprev,
    State.withDecoderOf_cnt, h]

theorem InPorts.Pending.perm {c : InPorts} {ws vs : List StimWord} {s : State} (hp : ws.Perm vs)
    (h : c.Pending ws s) : c.Pending vs s where
  nodup := hp.nodup h.nodup
  sides w hw := h.sides w (hp.mem_iff.mpr hw)
  switchFree hm hpop := h.switchFree (hp.mem_iff.mpr hm) (hp.mem_iff.mpr hpop)
  decoderFree hq hpop := h.decoderFree (hp.mem_iff.mpr hq) (hp.mem_iff.mpr hpop)

/-- Running one of the words leaves the rest pending: it acts on one side, and there at most one word is left. -/
theorem InPorts.Pending.after {c : InPorts} {w : StimWord} {ws : List StimWord} {s : State}
    (h : c.Pending (w :: ws) s) : c.Pending ws (wordEffect w s) where
  nodup := h.nodup.of_cons
  sides v hv := h.sides v (.tail w hv)
  switchFree hm hpop := by
    obtain ⟨hen, hfree⟩ := h.switchFree (.tail w hm) (.tail w hpop)
    rcases h.sides w (.head ws) with (rfl | rfl) | hd
    · exact absurd hm h.nodup.notMem
    · exact absurd hpop h.nodup.notMem
    · rw [hd.effect_eq s, pushesSw_withDecoderOf]
      exact ⟨hen, hfree⟩
  decoderFree hq hpop := by
    have hfree := h.decoderFree (.tail w hq) (.tail w hpop)
    rcases h.sides w (.head ws) with hsw | rfl | rfl
    · rw [hsw.effect_eq s, pushesEnc_withDecoderOf c (hsw.effect_cfg s)]
      exact hfree
    · exact absurd hq h.nodup.notMem
    · exact absurd hpop h.nodup.notMem

/-- Any two of the pending words commute. -/
theorem InPorts.Pending.comm {c : InPorts} {v w : StimWord} {ws : List StimWord} {s : State}
    (h : c.Pending (v :: w :: ws) s) : wordEffect w (wordEffect v s) = wordEffect v (wordEffect w s) := by
  have hv : v ∈ v :: w :: ws := .head _
  have hw : w ∈ v :: w :: ws := .tail _ (.head _)
  rcases h.sides v hv with hvs | hvd <;> rcases h.sides w hw with hws | hwd
  · rcases hvs with rfl | rfl <;> rcases hws with rfl | rfl
    · rfl
    · obtain ⟨hen, hfree⟩ := h.switchFree hv hw
      simpa using (msinc_popsw hen hfree).symm
    · obtain ⟨hen, hfree⟩ := h.switchFree hw hv
      simpa using msinc_popsw hen hfree
    · rfl
  · exact (wordEffect_comm_of_sides hvs hwd s).symm
  · exact wordEffect_comm_of_sides hws hvd s
  · rcases hvd with rfl | rfl <;> rcases hwd with rfl | rfl
    · rfl
    · simpa [InPorts.sampleWord] using (qsample_popenc (h.decoderFree hv hw)).symm
    · simpa [InPorts.sampleWord] using qsample_popenc (h.decoderFree hw hv)
    · rfl

theorem InPorts.Pending.runWords_cons {c : InPorts} {w : StimWord} {ws : List StimWord} {s : State}
    (h : c.Pending (w :: ws) s) (vs : List StimWord) : runWords (w :: vs) s = runWords vs (wordEffect w s) := by
  rcases h.sides w (.head ws) with (rfl | rfl) | rfl | rfl <;> simp [InPorts.sampleWord]

/-- Pending words complete. -/
theorem InPorts.Pending.completes {c : InPorts} {ws : List StimWord} {s : State} (h : c.Pending ws s) :
    ∃ t, runWords ws s = .next t := by
  induction ws generalizing s with
  | nil => exact ⟨s, runWords_nil s⟩
  | cons w ws ih => rw [h.runWords_cons]; exact ih h.after

/-- Pending words lead to the same state in every order. -/
theorem InPorts.Pending.runWords_perm {c : InPorts} {ws vs : List StimWord} (hp : ws.Perm vs) {s : State}
    (h : c.Pending ws s) : runWords ws s = runWords vs s := by
  induction hp generalizing s with
  | nil => rfl
  | cons w _ ih => rw [h.runWords_cons, h.runWords_cons, ih h.after]
  | swap v w ws =>
    have h' := h.perm (.swap v w ws)
    rw [h.runWords_cons, h.after.runWords_cons, h'.runWords_cons, h'.after.runWords_cons, h.comm]
  | trans hp _ ih₁ ih₂ => rw [ih₁ h, ih₂ (h.perm hp)]

/-! ### The orders of a cycle -/

/-- The operations of a cycle without reset request: its sample, and those its strobes ask for (R7, R65). -/
def InPorts.instrs (c : InPorts) : List Instr :=
  .qsample c.encA c.encB :: ((if c.msEn then [.msinc c.pttN c.tuneN c.knobN] else [])
    ++ (if c.swqPop then [.popsw] else []) ++ (if c.encqPop then [.popenc] else []))

theorem map_decodeOp_cycle (c : InPorts) : (c.sampleWord :: c.strobes).map decodeOp = c.instrs.map .ok := by
  cases hm : c.msEn <;> cases hs : c.swqPop <;> cases he : c.encqPop <;>
    simp [InPorts.instrs, InPorts.sampleWord, InPorts.strobes, hm, hs, he]

theorem mem_instrs_of_mem_cycle {c : InPorts} {w : StimWord} {i : Instr} (hd : decodeOp w = .ok i)
    (h : w ∈ c.sampleWord :: c.strobes) : i ∈ c.instrs := by
  have hmem := List.mem_map_of_mem (f := decodeOp) h
  rw [map_decodeOp_cycle, hd] at hmem
  simpa using hmem

theorem cycleWords_nodup (c : InPorts) : (c.sampleWord :: c.strobes).Nodup := by
  refine .of_map decodeOp ?_
  rw [map_decodeOp_cycle, InPorts.instrs]
  split_ifs <;> simp

theorem cycleWords_sides {c : InPorts} {w : StimWord} (h : w ∈ c.sampleWord :: c.strobes) :
    c.SwitchWord w ∨ c.DecoderWord w := by
  have hw : w = c.sampleWord ∨ (c.msEn = true ∧ w = wordMsinc c.pttN c.tuneN c.knobN) ∨
      (c.swqPop = true ∧ w = wordPopsw) ∨ (c.encqPop = true ∧ w = wordPopenc) := by
    simpa [InPorts.strobes, or_assoc] using h
  rcases hw with hw | ⟨-, hw⟩ | ⟨-, hw⟩ | ⟨-, hw⟩
  · exact .inr (.inl hw)
  · exact .inl (.inl hw)
  · exact .inl (.inr hw)
  · exact .inr (.inr hw)

theorem msEn_of_mem_cycle {c : InPorts} (h : wordMsinc c.pttN c.tuneN c.knobN ∈ c.sampleWord :: c.strobes) :
    c.msEn = true := by
  simpa [InPorts.instrs] using mem_instrs_of_mem_cycle (decodeOp_msinc _ _ _) h

theorem swqPop_of_mem_cycle {c : InPorts} (h : wordPopsw ∈ c.sampleWord :: c.strobes) : c.swqPop = true := by
  simpa [InPorts.instrs] using mem_instrs_of_mem_cycle decodeOp_popsw h

theorem encqPop_of_mem_cycle {c : InPorts} (h : wordPopenc ∈ c.sampleWord :: c.strobes) : c.encqPop = true := by
  simpa [InPorts.instrs] using mem_instrs_of_mem_cycle decodeOp_popenc h

/-- A cycle's sample and strobes are pending when neither queue is both pushed and popped. -/
theorem pending_cycle {c : InPorts} {s : State} (hsw : ¬ (c.pushesSw s ∧ c.swqPop = true))
    (henc : ¬ (c.pushesEnc s ∧ c.encqPop = true)) : c.Pending (c.sampleWord :: c.strobes) s where
  nodup := cycleWords_nodup c
  sides _ hw := cycleWords_sides hw
  switchFree hm hpop := ⟨msEn_of_mem_cycle hm, fun hpush => hsw ⟨hpush, swqPop_of_mem_cycle hpop⟩⟩
  decoderFree _ hpop := fun hpush => henc ⟨hpush, encqPop_of_mem_cycle hpop⟩

/-- Every serial form a cycle without reset admits runs as the sample followed by the strobes: the sample may come
elsewhere, and one that repeats is no step at all. -/
theorem runWords_of_admits {c : InPorts} {s : State} {ws : List StimWord} (hrst : c.rst = false)
    (ha : c.admits s ws = true) (hpend : c.Pending (c.sampleWord :: c.strobes) s)
    (hcnt : c.repeats s = true → 0 ≤ s.cnt ∧ s.cnt < (s.cfg.detentThresh : Int)) :
    runWords ws s = runWords (c.sampleWord :: c.strobes) s := by
  have hsample : c.repeats s = true → wordEffect c.sampleWord s = s := fun hrep => by
    rw [InPorts.sampleWord, wordEffect_q, qsample_of_repeats hrep (hcnt hrep)]
  rcases (admits_cases c s ws).mp ha with ⟨hr, -⟩ | ⟨-, hp⟩ | ⟨-, hrep, hnil, rfl⟩ | ⟨-, hrep, -, hp⟩
  · simp [hrst] at hr
  · exact (hpend.runWords_perm hp.symm).symm
  · rw [hpend.runWords_cons, hsample hrep, hnil, runWords_nop]
  · have hstrobes : c.Pending c.strobes s := hsample hrep ▸ hpend.after
    rw [hpend.runWords_cons, hsample hrep, hstrobes.runWords_perm hp.symm]

/-- Settles O43: in a cycle without reset every admitted form runs as the sample and then the strobes. -/
theorem cycleOrderIsImmaterial : Obligations.CycleOrderIsImmaterial := by
  intro c s ws vs hws hvs hsw henc hcnt
  cases hrst : c.rst with
  | true =>
    have only_reset : ∀ us, c.admits s us = true → us = [wordReset] := by
      intro us hus
      simpa [InPorts.admits, hrst] using hus
    rw [only_reset ws hws, only_reset vs hvs, runWords_reset, runWords_nil]
    exact ⟨_, rfl, rfl⟩
  | false =>
    have hpend := pending_cycle hsw henc
    obtain ⟨t, ht⟩ := hpend.completes
    exact ⟨t, (runWords_of_admits hrst hws hpend hcnt).trans ht, (runWords_of_admits hrst hvs hpend hcnt).trans ht⟩

end Sys2Proof.Machine
end

section
/-! PROOFS. The state family: every step keeps the invariants of R28. One rule per update of the state, then one per
operation; the sequencer's outputs are a function of its state up to tune-out while KEYED, and each transition writes what
the state it enters asks for. -/
namespace Sys2Proof.Machine

section
variable {s : State}

/-! ### Updates of one register or queue -/

theorem inv_setStim (ws : List StimWord) (h : Inv s) : Inv (s.setStim ws) := { h with }

theorem inv_setSwRet (r : Bool × BitVec 4) (h : Inv s) : Inv (s.setSwRet r) := { h with }

theorem inv_setEncRet (r : Bool × BitVec 2) (h : Inv s) : Inv (s.setEncRet r) := { h with }

theorem inv_setPrior (p t k : Bool) (h : Inv s) : Inv (s.setPrior p t k) := { h with }

theorem inv_setQprev (x : BitVec 2) (h : Inv s) : Inv (s.setQprev x) := { h with }

theorem inv_setQvalid (v : Bool) (h : Inv s) : Inv (s.setQvalid v) := { h with }

theorem inv_setTdiv {v : BitVec 4} (h : Inv s) (hv : v.toNat ≤ 9) : Inv (s.setTdiv v) := { h with tdivRange := hv }

theorem inv_setKnobT0 {v : Time} (h : Inv s) (hv : v < 2 ^ s.cfg.w) : Inv (s.setKnobT0 v) :=
  { h with knobT0Range := hv }

theorem inv_setCnt {v : Int} (h : Inv s) (hv : 0 ≤ v ∧ v ≤ (s.cfg.detentThresh : Int) - 1) : Inv (s.setCnt v) :=
  { h with cntRange := hv }

theorem inv_advanceMs (h : Inv s) : Inv (advanceMs s) := { h with msRange := tadd_lt s.cfg s.ms 1 }

theorem inv_pushSw (e : SwEvent) (h : Inv s) : Inv (pushSw e s) :=
  { h with swqBound := push_length_le h.swqBound, swErrRange := push_err_lt h.swErrRange }

theorem inv_pushEnc (p : Pulse) (h : Inv s) : Inv (pushEnc p s) :=
  { h with encqBound := push_length_le h.encqBound, encErrRange := push_err_lt h.encErrRange }

/-! ### The host's operations -/

/-- A pop shortens its queue at most. -/
theorem pop_length_le {α : Type} {n depth : Nat} (code : α → BitVec n) {q : List α} (h : q.length ≤ depth) :
    (pop code q).2.length ≤ depth := by
  rw [pop_rest, List.length_tail]
  omega

theorem inv_popsw (h : Inv s) : Inv (popsw s) :=
  inv_setSwRet _ { h with swqBound := pop_length_le SwEvent.code h.swqBound }

theorem inv_popenc (h : Inv s) : Inv (popenc s) :=
  inv_setEncRet _ { h with encqBound := pop_length_le Pulse.code h.encqBound }

/-- The reset values meet the invariants: all outputs low in IDLE, counters and queues empty, every range non-empty. -/
theorem inv_resetWith {c : Params} (h : c.Ok) : Inv (State.resetWith c) where
  params := h
  msRange := Nat.two_pow_pos _
  knobT0Range := Nat.two_pow_pos _
  deadlineRange := Nat.two_pow_pos _
  tdivRange := Nat.zero_le 9
  muteIff := by simp [State.resetWith]
  pttIff := by simp [State.resetWith]
  tuneOnly := nofun
  keySafe := nofun
  cntRange := by
    obtain ⟨-, hthresh, -⟩ := h
    simp only [State.resetWith]
    omega
  swqBound := Nat.zero_le _
  encqBound := Nat.zero_le _
  swErrRange := Nat.two_pow_pos _
  encErrRange := Nat.two_pow_pos _

theorem inv_resetBlock (h : s.cfg.Ok) : Inv (resetBlock s) := { inv_resetWith h with }

/-! ### The quadrature decoder -/

/-- I-CNT holds after any count added: both wraps land on an end of the range, which R5 makes non-empty. -/
theorem inv_quadAccumulate (d : Int) (cur : BitVec 2) (h : Inv s) : Inv (quadAccumulate d cur s) := by
  obtain ⟨-, hthresh, -⟩ := h.params
  have hcur := inv_setQprev cur h
  rcases quadAccumulate_cases d cur s with ⟨-, heq⟩ | ⟨-, -, heq⟩ | ⟨hlt, hnonneg, heq⟩ <;> rw [heq]
  · exact inv_pushEnc _ (inv_setCnt hcur (by simp only [State.setQprev_cfg]; omega))
  · exact inv_pushEnc _ (inv_setCnt hcur (by simp only [State.setQprev_cfg]; omega))
  · exact inv_setCnt hcur (by simp only [State.setQprev_cfg]; omega)

theorem inv_qsample (a b : Bool) (h : Inv s) : Inv (qsample a b s) := by
  rcases qsample_cases a b s with ⟨-, heq⟩ | ⟨-, heq⟩ <;> rw [heq]
  · exact inv_setQvalid _ (inv_setQprev _ h)
  · exact inv_quadAccumulate _ _ h

/-! ### The switch sampler -/

theorem inv_sampleTune (t : Bool) (h : Inv s) : Inv (sampleTune t s) := by
  rcases sampleTune_cases t s with ⟨-, -, heq⟩ | ⟨-, -, heq⟩ | ⟨-, heq⟩ <;> rw [heq]
  · exact inv_pushSw _ h
  · exact inv_pushSw _ h
  · exact h

theorem inv_samplePtt (p : Bool) (h : Inv s) : Inv (samplePtt p s) := by
  rcases samplePtt_cases p s with ⟨-, -, heq⟩ | ⟨-, -, heq⟩ | ⟨-, heq⟩ <;> rw [heq]
  · exact inv_pushSw _ h
  · exact inv_pushSw _ h
  · exact h

theorem inv_sampleKnob (k : Bool) (h : Inv s) : Inv (sampleKnob k s) := by
  rcases sampleKnob_cases k s with ⟨-, -, heq⟩ | ⟨-, -, -, heq⟩ | ⟨-, -, -, heq⟩ | ⟨-, heq⟩ <;> rw [heq]
  · exact inv_setKnobT0 h h.msRange
  · exact inv_pushSw _ h
  · exact inv_pushSw _ h
  · exact h

theorem inv_samplerStep (p t k : Bool) (h : Inv s) : Inv (samplerStep p t k s) :=
  inv_setPrior _ _ _ (inv_sampleKnob k (inv_samplePtt p (inv_sampleTune t h)))

/-! ### The sequencer -/

/-- The output levels I-MUTE, I-PTT and I-TUNE allow in a sequencer state. -/
def OutputsFit (q : SeqState) (mute pttOut tuneOut : Bool) : Prop :=
  (mute = true ↔ q = .keyWait ∨ q = .keyed ∨ q = .unmuteWait) ∧ (pttOut = true ↔ q = .keyed) ∧
    (tuneOut = true → q = .keyed)

@[simp] theorem outputsFit_idle (m p t : Bool) : OutputsFit .idle m p t ↔ m = false ∧ p = false ∧ t = false := by
  simp [OutputsFit]

@[simp] theorem outputsFit_keyWait (m p t : Bool) : OutputsFit .keyWait m p t ↔ m = true ∧ p = false ∧ t = false := by
  simp [OutputsFit]

@[simp] theorem outputsFit_keyed (m p t : Bool) : OutputsFit .keyed m p t ↔ m = true ∧ p = true := by
  simp [OutputsFit]

@[simp] theorem outputsFit_unmuteWait (m p t : Bool) :
    OutputsFit .unmuteWait m p t ↔ m = true ∧ p = false ∧ t = false := by
  simp [OutputsFit]

@[simp] theorem outputsFit_timedOut (m p t : Bool) :
    OutputsFit .timedOut m p t ↔ m = false ∧ p = false ∧ t = false := by
  simp [OutputsFit]

theorem Inv.outputsFit {q : SeqState} (h : Inv s) (hs : s.seq = q) : OutputsFit q s.mute s.pttOut s.tuneOut :=
  hs ▸ ⟨h.muteIff, h.pttIff, h.tuneOnly⟩

/-- The sequencer's registers may take any values that fit each other; I-KEYSAFE follows from I-PTT and I-MUTE. -/
theorem inv_setSequencer {q : SeqState} {d : Time} {m p t : Bool} (h : Inv s) (hd : d < 2 ^ s.cfg.w)
    (hfit : OutputsFit q m p t) :
    Inv { s with seq := q, deadline := d, mute := m, pttOut := p, tuneOut := t } := by
  obtain ⟨hmute, hptt, htune⟩ := hfit
  exact { h with
    deadlineRange := hd
    muteIff := hmute
    pttIff := hptt
    tuneOnly := htune
    keySafe := fun hp => hmute.mpr (.inr (.inl (hptt.mp hp))) }

theorem inv_seqIdleKey (h : Inv s) (hs : s.seq = .idle) : Inv (seqIdleKey s) := by
  obtain ⟨-, hptt, htune⟩ := (outputsFit_idle _ _ _).mp (h.outputsFit hs)
  exact inv_setSequencer (s := s) h (tadd_lt _ _ _) ((outputsFit_keyWait _ _ _).mpr ⟨rfl, hptt, htune⟩)

theorem inv_seqKeywaitAbort (h : Inv s) (hs : s.seq = .keyWait) : Inv (seqKeywaitAbort s) := by
  obtain ⟨-, hptt, htune⟩ := (outputsFit_keyWait _ _ _).mp (h.outputsFit hs)
  exact inv_setSequencer (s := s) h h.deadlineRange ((outputsFit_idle _ _ _).mpr ⟨rfl, hptt, htune⟩)

theorem inv_seqEnterKeyed (b : Bool) (h : Inv s) (hs : s.seq = .keyWait) : Inv (seqEnterKeyed b s) := by
  obtain ⟨hmute, -, -⟩ := (outputsFit_keyWait _ _ _).mp (h.outputsFit hs)
  exact inv_setSequencer (s := s) h (tadd_lt _ _ _) ((outputsFit_keyed _ _ _).mpr ⟨hmute, rfl⟩)

theorem inv_seqKeyedUnkey (h : Inv s) (hs : s.seq = .keyed) : Inv (seqKeyedUnkey s) := by
  obtain ⟨hmute, -⟩ := (outputsFit_keyed _ _ _).mp (h.outputsFit hs)
  exact inv_setSequencer (s := s) h (tadd_lt _ _ _) ((outputsFit_unmuteWait _ _ _).mpr ⟨hmute, rfl, rfl⟩)

/-- The push leaves the sequencer's registers, so it may be taken after the transition. -/
theorem inv_seqKeyedTimeout (h : Inv s) : Inv (seqKeyedTimeout s) :=
  inv_pushSw .txTimedOutEntry (inv_setSequencer h h.deadlineRange ((outputsFit_timedOut _ _ _).mpr ⟨rfl, rfl, rfl⟩))

theorem inv_seqUnmuteDone (h : Inv s) (hs : s.seq = .unmuteWait) : Inv (seqUnmuteDone s) := by
  obtain ⟨-, hptt, htune⟩ := (outputsFit_unmuteWait _ _ _).mp (h.outputsFit hs)
  exact inv_setSequencer (s := s) h h.deadlineRange ((outputsFit_idle _ _ _).mpr ⟨rfl, hptt, htune⟩)

theorem inv_seqTimedoutExit (h : Inv s) (hs : s.seq = .timedOut) : Inv (seqTimedoutExit s) := by
  have hfit := (outputsFit_timedOut _ _ _).mp (h.outputsFit hs)
  exact inv_pushSw .txTimedOutExit (inv_setSequencer h h.deadlineRange ((outputsFit_idle _ _ _).mpr hfit))

theorem inv_seqStep (p t : Bool) (h : Inv s) : Inv (seqStep p t s) := by
  rcases seqStep_rows p t s with ⟨hs, -, heq⟩ | ⟨hs, -, heq⟩ | ⟨hs, -, -, heq⟩ | ⟨hs, -, heq⟩ | ⟨-, -, -, heq⟩ |
    ⟨hs, -, heq⟩ | ⟨hs, -, heq⟩ | ⟨heq, -⟩ <;> rw [heq]
  · exact inv_seqIdleKey h hs
  · exact inv_seqKeywaitAbort h hs
  · exact inv_seqEnterKeyed _ h hs
  · exact inv_seqKeyedUnkey h hs
  · exact inv_seqKeyedTimeout h
  · exact inv_seqUnmuteDone h hs
  · exact inv_seqTimedoutExit h hs
  · exact h

/-! ### The timebase and the step -/

theorem inv_tick (x y z : Bool) (h : Inv s) : Inv (tick x y z s) := inv_seqStep _ _ (inv_samplerStep _ _ _ h)

/-- The divider counts on only below 9, where a tick is not due. -/
theorem tdiv_succ_le {d : BitVec 4} (hd : d.toNat ≤ 9) (hne : d ≠ 9) : (d + 1).toNat ≤ 9 := by
  bv_omega

theorem inv_msinc (x y z : Bool) (h : Inv s) : Inv (msinc x y z s) := by
  have hms := inv_advanceMs h
  rcases msinc_cases x y z s with ⟨-, heq⟩ | ⟨hdue, heq⟩ <;> rw [heq]
  · exact inv_tick x y z (inv_setTdiv hms (Nat.zero_le 9))
  · exact inv_setTdiv hms (tdiv_succ_le h.tdivRange (by simpa [tickDue, tickMs] using hdue))

end

/-- Settles O11: each operation keeps the invariants, and consuming a stimulus word does not touch them. -/
theorem stepKeepsInvariants : Obligations.StepKeepsInvariants := by
  intro s t h hstep
  rcases step_next_cases hstep with ⟨-, rfl⟩ | ⟨S, rest, -, hop⟩
  · exact h
  · have hrest := inv_setStim rest h
    rcases hop with ⟨-, rfl⟩ | ⟨x, y, z, -, rfl⟩ | ⟨a, b, -, rfl⟩ | ⟨-, rfl⟩ | ⟨-, rfl⟩ | ⟨-, rfl⟩
    · exact hrest
    · exact inv_msinc x y z hrest
    · exact inv_qsample a b hrest
    · exact inv_popsw hrest
    · exact inv_popenc hrest
    · exact inv_resetBlock hrest.params

end Sys2Proof.Machine
end

section
/-! PROOFS. The memory family: what pushes and pops make of the two queues, that every step keeps the queued items in
order, and that a producer commutes with a pop of its queue away from empty and full. -/
namespace Sys2Proof.Machine

/-! ### Pushes -/

/-- With room the event is the new tail, and only the queue is written (R31). -/
theorem pushSw_of_room {e : SwEvent} {s : State} (h : s.swq.length < s.cfg.swqDepth) :
    pushSw e s = s.setSw (s.swq ++ [e]) s.swErr := by
  rw [pushSw, push_of_room h]

/-- On a full queue the event is counted, and only the error counter is written (R31). -/
theorem pushSw_of_full {e : SwEvent} {s : State} (h : s.cfg.swqDepth ≤ s.swq.length) :
    pushSw e s = s.setSw s.swq (errInc s.cfg s.swErr) := by
  rw [pushSw, push_of_full h]

/-- With room the pulse is the new tail, and only the queue is written (R31). -/
theorem pushEnc_of_room {p : Pulse} {s : State} (h : s.encq.length < s.cfg.encqDepth) :
    pushEnc p s = s.setEnc (s.encq ++ [p]) s.encErr := by
  rw [pushEnc, push_of_room h]

/-- On a full queue the pulse is counted, and only the error counter is written (R31). -/
theorem pushEnc_of_full {p : Pulse} {s : State} (h : s.cfg.encqDepth ≤ s.encq.length) :
    pushEnc p s = s.setEnc s.encq (errInc s.cfg s.encErr) := by
  rw [pushEnc, push_of_full h]

theorem pushedSw_pushSw (e : SwEvent) (s : State) : PushedSw e s (pushSw e s) := by
  refine ⟨fun hroom => ?_, fun hfull => ?_⟩
  · rw [pushSw_of_room hroom]
    exact ⟨rfl, rfl⟩
  · rw [pushSw_of_full hfull]
    exact ⟨rfl, rfl⟩

theorem pushedEnc_pushEnc (p : Pulse) (s : State) : PushedEnc p s (pushEnc p s) := by
  refine ⟨fun hroom => ?_, fun hfull => ?_⟩
  · rw [pushEnc_of_room hroom]
    exact ⟨rfl, rfl⟩
  · rw [pushEnc_of_full hfull]
    exact ⟨rfl, rfl⟩

/-- Of several events pushed in a row the first that fit are queued and the others counted: while there is room each push
takes one free slot, and from then on each one adds to the counter (R31). -/
theorem foldl_pushSw (es : List SwEvent) {s : State} (herr : s.swErr < 2 ^ s.cfg.errw) :
    es.foldl (fun u e => pushSw e u) s = s.setSw (s.swq ++ es.take (s.cfg.swqDepth - s.swq.length))
      ((s.swErr + (es.length - (s.cfg.swqDepth - s.swq.length))) % 2 ^ s.cfg.errw) := by
  induction es generalizing s with
  | nil => simp [Nat.mod_eq_of_lt herr, State.setSw]
  | cons e es ih =>
    rw [List.foldl_cons, ih (s := pushSw e s) (push_err_lt herr)]
    rcases Nat.lt_or_ge s.swq.length s.cfg.swqDepth with hroom | hfull
    · obtain ⟨free, hfree⟩ : ∃ free, s.cfg.swqDepth - s.swq.length = free + 1 := ⟨_, (Nat.succ_pred (by omega)).symm⟩
      have hleft : s.cfg.swqDepth - (s.swq.length + 1) = free := by omega
      simp [pushSw_of_room hroom, hfree, hleft, State.setSw]
    · have hnone : s.cfg.swqDepth - s.swq.length = 0 := by omega
      simp [pushSw_of_full hfull, hnone, errInc, State.setSw, Nat.add_assoc, Nat.add_comm 1]

/-- Settles O36: one push by the room there is, several by induction on the list. -/
theorem pushAppendsOrCounts : Obligations.PushAppendsOrCounts :=
  ⟨fun e s => ⟨pushedSw_pushSw e s, rfl⟩, fun p s => ⟨pushedEnc_pushEnc p s, rfl⟩, fun es _ herr => foldl_pushSw es herr⟩

/-! ### Queued items stay in order -/

theorem swq_prefix_pushSw (e : SwEvent) (s : State) : s.swq <+: (pushSw e s).swq := push_keeps _ _ _ _ _

theorem encq_prefix_pushEnc (p : Pulse) (s : State) : s.encq <+: (pushEnc p s).encq := push_keeps _ _ _ _ _

theorem swq_prefix_sampleTune (t : Bool) (s : State) : s.swq <+: (sampleTune t s).swq := by
  rcases sampleTune_cases t s with ⟨-, -, heq⟩ | ⟨-, -, heq⟩ | ⟨-, heq⟩ <;> rw [heq]
  · exact swq_prefix_pushSw _ s
  · exact swq_prefix_pushSw _ s

theorem swq_prefix_samplePtt (p : Bool) (s : State) : s.swq <+: (samplePtt p s).swq := by
  rcases samplePtt_cases p s with ⟨-, -, heq⟩ | ⟨-, -, heq⟩ | ⟨-, heq⟩ <;> rw [heq]
  · exact swq_prefix_pushSw _ s
  · exact swq_prefix_pushSw _ s

theorem swq_prefix_sampleKnob (k : Bool) (s : State) : s.swq <+: (sampleKnob k s).swq := by
  rcases sampleKnob_cases k s with ⟨-, -, heq⟩ | ⟨-, -, -, heq⟩ | ⟨-, -, -, heq⟩ | ⟨-, heq⟩ <;> rw [heq]
  · exact List.prefix_rfl
  · exact swq_prefix_pushSw _ s
  · exact swq_prefix_pushSw _ s

theorem swq_prefix_samplerStep (p t k : Bool) (s : State) : s.swq <+: (samplerStep p t k s).swq :=
  (swq_prefix_sampleTune t s).trans ((swq_prefix_samplePtt p _).trans (swq_prefix_sampleKnob k _))

/-- Of the sequencer's transitions only the entry to TIMED_OUT and the exit from it touch the queue, with a push. -/
theorem swq_prefix_seqStep (p t : Bool) (s : State) : s.swq <+: (seqStep p t s).swq := by
  rcases seqStep_cases p t s with heq | heq | heq | heq | heq | heq | heq | heq <;> rw [heq]
  · exact List.prefix_rfl
  · exact List.prefix_rfl
  · exact List.prefix_rfl
  · exact List.prefix_rfl
  · exact swq_prefix_pushSw .txTimedOutEntry s
  · exact List.prefix_rfl
  · exact swq_prefix_pushSw .txTimedOutExit s

theorem swq_prefix_tick (x y z : Bool) (s : State) : s.swq <+: (tick x y z s).swq :=
  (swq_prefix_samplerStep _ _ _ s).trans (swq_prefix_seqStep _ _ _)

theorem swq_prefix_msinc (x y z : Bool) (s : State) : s.swq <+: (msinc x y z s).swq := by
  rcases msinc_cases x y z s with ⟨-, heq⟩ | ⟨-, heq⟩ <;> rw [heq]
  · exact swq_prefix_tick x y z ((advanceMs s).setTdiv 0)
  · exact List.prefix_rfl

theorem encq_prefix_quadAccumulate (d : Int) (cur : BitVec 2) (s : State) :
    s.encq <+: (quadAccumulate d cur s).encq := by
  rcases quadAccumulate_cases d cur s with ⟨-, heq⟩ | ⟨-, -, heq⟩ | ⟨-, -, heq⟩ <;> rw [heq]
  · exact encq_prefix_pushEnc .plus ((s.setQprev cur).setCnt _)
  · exact encq_prefix_pushEnc .minus ((s.setQprev cur).setCnt _)
  · exact List.prefix_rfl

theorem encq_prefix_qsample (a b : Bool) (s : State) : s.encq <+: (qsample a b s).encq := by
  rcases qsample_cases a b s with ⟨-, heq⟩ | ⟨-, heq⟩ <;> rw [heq]
  · exact List.prefix_rfl
  · exact encq_prefix_quadAccumulate _ _ s

/-- Settles O39, operation by operation: each queue grows at its tail at most, except at its own pop and at `RESET`. -/
theorem queuedItemsStayInOrder : Obligations.QueuedItemsStayInOrder := by
  intro s t hstep
  rcases step_next_cases hstep with ⟨-, rfl⟩ | ⟨S, rest, hS, hop⟩
  · exact ⟨.inl List.prefix_rfl, .inl List.prefix_rfl⟩
  · rcases hop with ⟨-, rfl⟩ | ⟨x, y, z, -, rfl⟩ | ⟨a, b, -, rfl⟩ | ⟨rfl, rfl⟩ | ⟨rfl, rfl⟩ | ⟨rfl, rfl⟩
    · exact ⟨.inl List.prefix_rfl, .inl List.prefix_rfl⟩
    · exact ⟨.inl (swq_prefix_msinc x y z (s.setStim rest)), .inl (by simp)⟩
    · exact ⟨.inl (by simp), .inl (encq_prefix_qsample a b (s.setStim rest))⟩
    · exact ⟨.inr (.inl ⟨rest, hS, by simp⟩), .inl (by simp)⟩
    · exact ⟨.inl (by simp), .inr (.inl ⟨rest, hS, by simp⟩)⟩
    · exact ⟨.inr (.inr ⟨rest, hS, rfl⟩), .inr (.inr ⟨rest, hS, rfl⟩)⟩

/-! ### Pops in a row -/

/-- Pops in a row run as the pop iterated. -/
theorem runWords_replicate_popsw (n : Nat) (s : State) :
    runWords (List.replicate n wordPopsw) s = .next (popsw^[n] s) := by
  induction n generalizing s with
  | zero => exact runWords_nil s
  | succ n ih => rw [List.replicate_succ, runWords_popsw, ih, Function.iterate_succ_apply]

/-- Each pop takes one item off the head (R32). -/
theorem iterate_popsw_swq (n : Nat) (s : State) : (popsw^[n] s).swq = s.swq.drop n := by
  induction n with
  | zero => rfl
  | succ n ih => rw [Function.iterate_succ_apply', popsw_swq, ih, List.tail_drop]

theorem popsw_swRet_of_nil {s : State} (h : s.swq = []) : (popsw s).swRet = some (false, 0) := by
  simp [popsw, pop, h]

theorem popsw_swRet_of_cons {s : State} {e : SwEvent} {rest : List SwEvent} (h : s.swq = e :: rest) :
    (popsw s).swRet = some (true, e.code) := by
  simp [popsw, pop, h]

/-- Settles O40: after `n` pops the queue is the old one without its first `n` items, so the next pop returns what is at
place `n`, or `(0, 0)` past the end. -/
theorem drainReturnsEventsInOrder : Obligations.DrainReturnsEventsInOrder := by
  refine fun s => ⟨fun n hn => ⟨_, runWords_replicate_popsw (n + 1) s, ?_, iterate_popsw_swq (n + 1) s⟩,
    _, runWords_replicate_popsw (s.swq.length + 1) s, ?_, ?_⟩
  · rw [Function.iterate_succ_apply']
    exact popsw_swRet_of_cons ((iterate_popsw_swq n s).trans (List.drop_eq_getElem_cons hn))
  · rw [Function.iterate_succ_apply']
    exact popsw_swRet_of_nil ((iterate_popsw_swq _ s).trans List.drop_length)
  · rw [iterate_popsw_swq, List.drop_eq_nil_of_le (Nat.le_succ _)]

/-! ### A push and a pop of one queue -/

/-- A pop does not see an item behind the head. -/
theorem pop_append_singleton {α : Type} {n : Nat} (code : α → BitVec n) {q : List α} (v : α) (h : q ≠ []) :
    pop code (q ++ [v]) = ((pop code q).1, (pop code q).2 ++ [v]) := by
  cases q with
  | nil => exact absurd rfl h
  | cons u rest => rfl

/-- The event queue is not empty and has room for `n` events more. -/
def SwqRoom (n : Nat) (s : State) : Prop := s.swq ≠ [] ∧ s.swq.length + n ≤ s.cfg.swqDepth

section
variable {n : Nat} {s : State}

theorem SwqRoom.of_succ (h : SwqRoom (n + 1) s) : SwqRoom n s :=
  let ⟨hne, hroom⟩ := h
  ⟨hne, Nat.le_of_succ_le hroom⟩

/-- A push takes one free slot. -/
theorem SwqRoom.pushSw (e : SwEvent) (h : SwqRoom (n + 1) s) : SwqRoom n (pushSw e s) := by
  obtain ⟨hne, hroom⟩ := h
  rw [pushSw_of_room (by omega)]
  refine ⟨by simp, ?_⟩
  simp only [State.setSw_swq, State.setSw_cfg, List.length_append, List.length_singleton]
  omega

theorem SwqRoom.sampleTune (t : Bool) (h : SwqRoom (n + 1) s) : SwqRoom n (sampleTune t s) := by
  rcases sampleTune_cases t s with ⟨-, -, heq⟩ | ⟨-, -, heq⟩ | ⟨-, heq⟩ <;> rw [heq]
  · exact h.pushSw _
  · exact h.pushSw _
  · exact h.of_succ

theorem SwqRoom.samplePtt (p : Bool) (h : SwqRoom (n + 1) s) : SwqRoom n (samplePtt p s) := by
  rcases samplePtt_cases p s with ⟨-, -, heq⟩ | ⟨-, -, heq⟩ | ⟨-, heq⟩ <;> rw [heq]
  · exact h.pushSw _
  · exact h.pushSw _
  · exact h.of_succ

theorem SwqRoom.sampleKnob (k : Bool) (h : SwqRoom (n + 1) s) : SwqRoom n (sampleKnob k s) := by
  rcases sampleKnob_cases k s with ⟨-, -, heq⟩ | ⟨-, -, -, heq⟩ | ⟨-, -, -, heq⟩ | ⟨-, heq⟩ <;> rw [heq]
  · exact h.of_succ
  · exact h.pushSw _
  · exact h.pushSw _
  · exact h.of_succ

/-- A push commutes with a pop of its queue when there is a head to pop and room for the event (R35). -/
theorem pushSw_popsw (e : SwEvent) (h : SwqRoom (n + 1) s) : pushSw e (popsw s) = popsw (pushSw e s) := by
  obtain ⟨hne, hroom⟩ := h
  have hroom' : (popsw s).swq.length < (popsw s).cfg.swqDepth := by
    rw [popsw_swq, popsw_cfg, List.length_tail]
    omega
  rw [pushSw_of_room hroom', pushSw_of_room (by omega), popsw, popsw, State.setSw_swq, pop_append_singleton _ _ hne]
  rfl

theorem sampleTune_popsw (t : Bool) (h : SwqRoom (n + 1) s) : sampleTune t (popsw s) = popsw (sampleTune t s) := by
  unfold sampleTune
  rw [popsw_tuneQ]
  cases s.tuneQ <;> cases t
  · rfl
  · exact pushSw_popsw _ h
  · exact pushSw_popsw _ h
  · rfl

theorem samplePtt_popsw (p : Bool) (h : SwqRoom (n + 1) s) : samplePtt p (popsw s) = popsw (samplePtt p s) := by
  unfold samplePtt
  rw [popsw_pttQ]
  cases s.pttQ <;> cases p
  · rfl
  · exact pushSw_popsw _ h
  · exact pushSw_popsw _ h
  · rfl

theorem sampleKnob_popsw_of_room (k : Bool) (h : SwqRoom (n + 1) s) :
    sampleKnob k (popsw s) = popsw (sampleKnob k s) := by
  by_cases hrelease : s.knobQ = true ∧ k = false
  · obtain ⟨hq, rfl⟩ := hrelease
    have hlng : longPress (popsw s) = longPress s := rfl
    simp only [sampleKnob, popsw_knobQ, hq, hlng]
    cases longPress s
    · exact pushSw_popsw _ h
    · exact pushSw_popsw _ h
  · exact sampleKnob_popsw hrelease

theorem samplerStep_popsw (p t k : Bool) (h : SwqRoom (n + 3) s) :
    samplerStep p t k (popsw s) = popsw (samplerStep p t k s) := by
  have hPtt := h.sampleTune t
  have hKnob := hPtt.samplePtt p
  rw [samplerStep, sampleTune_popsw t h, samplePtt_popsw p hPtt, sampleKnob_popsw_of_room k hKnob]
  rfl

/-- The sequencer's own pushes are those of the time-out and of its end; its other steps do not touch the queue. -/
theorem seqStep_popsw_of_room (p t : Bool) (h : SwqRoom (n + 1) s) :
    seqStep p t (popsw s) = popsw (seqStep p t s) := by
  have hexp : expired (popsw s) = expired s := rfl
  by_cases hk : s.seq = .keyed ∧ anyKey p t = true ∧ expired s = true
  · obtain ⟨hs, ha, he⟩ := hk
    simp only [seqStep, popsw_seq, hexp, hs, ha, he]
    exact congrArg (State.setSeq · .timedOut)
      (pushSw_popsw (s := ((s.setPttOut false).setTuneOut false).setMute false) .txTimedOutEntry h)
  by_cases ht : s.seq = .timedOut ∧ anyKey p t = false
  · obtain ⟨hs, ha⟩ := ht
    simp only [seqStep, popsw_seq, hs, ha]
    exact congrArg (State.setSeq · .idle) (pushSw_popsw .txTimedOutExit h)
  · exact seqStep_popsw hk ht

/-- A tick pushes four events at most, one at each of its four steps (R81). -/
theorem tick_popsw_of_room (x y z : Bool) (h : SwqRoom (n + 4) s) :
    tick x y z (popsw s) = popsw (tick x y z s) := by
  have hSeq : SwqRoom (n + 1) (samplerStep (asserted x) (asserted y) (asserted z) s) :=
    ((h.sampleTune _).samplePtt _).sampleKnob _
  rw [tick, samplerStep_popsw _ _ _ h, seqStep_popsw_of_room _ _ hSeq, tick]

theorem msinc_popsw_of_room (x y z : Bool) (h : SwqRoom 4 s) : msinc x y z (popsw s) = popsw (msinc x y z s) := by
  have hdue : tickDue (popsw s) = tickDue s := rfl
  unfold msinc
  rw [hdue]
  cases tickDue s with
  | false => rfl
  | true => exact tick_popsw_of_room (n := 0) (s := (advanceMs s).setTdiv 0) x y z h

/-- A push commutes with a pop of its queue when there is a head to pop and room for the pulse (R35). -/
theorem pushEnc_popenc (p : Pulse) (hne : s.encq ≠ []) (hroom : s.encq.length < s.cfg.encqDepth) :
    pushEnc p (popenc s) = popenc (pushEnc p s) := by
  have hroom' : (popenc s).encq.length < (popenc s).cfg.encqDepth := by
    rw [popenc_encq, popenc_cfg, List.length_tail]
    omega
  rw [pushEnc_of_room hroom', pushEnc_of_room hroom, popenc, popenc, State.setEnc_encq, pop_append_singleton _ _ hne]
  rfl

theorem quadAccumulate_popenc (d : Int) (cur : BitVec 2) (hne : s.encq ≠ []) (hroom : s.encq.length < s.cfg.encqDepth) :
    quadAccumulate d cur (popenc s) = popenc (quadAccumulate d cur s) := by
  simp only [quadAccumulate]
  rw [popenc_cfg, popenc_cnt]
  split_ifs
  · exact pushEnc_popenc (s := (s.setQprev cur).setCnt _) .plus hne hroom
  · exact pushEnc_popenc (s := (s.setQprev cur).setCnt _) .minus hne hroom
  · rfl

theorem qsample_popenc_of_room (a b : Bool) (hne : s.encq ≠ []) (hroom : s.encq.length < s.cfg.encqDepth) :
    qsample a b (popenc s) = popenc (qsample a b s) := by
  simp only [qsample, popenc_qvalid, popenc_qprev, quadAccumulate_popenc _ _ hne hroom]
  cases s.qvalid <;> rfl

end

/-- Settles O44: each producer's pushes commute one by one with a pop, since a slot is free for each and the head stays. -/
theorem coincidentPushAndPopAgree : Obligations.CoincidentPushAndPopAgree := by
  refine fun s x a b => ⟨fun hne hroom => ⟨_, _, popsw (msinc x.pttN x.tuneN x.knobN s), rfl, rfl, rfl, ?_⟩,
    fun hne hroom => ⟨_, _, popenc (qsample a b s), rfl, rfl, rfl, ?_⟩⟩
  · exact congrArg _ (msinc_popsw_of_room _ _ _ ⟨hne, hroom⟩)
  · exact congrArg _ (qsample_popenc_of_room a b hne hroom)

end Sys2Proof.Machine
end

section
/-! PROOFS. The encoding family: the encoder and the four decoders are inverse to each other and agree with the opcode
table, a tick and a sample are the rows their words select, and milliseconds add up. -/
namespace Sys2Proof.Laws

/-- The whole family, instruction by instruction. -/
theorem EncodesItsRow.all (i : Instr) : Statement i := by
  cases i <;> simp only [nop, msinc, qsample, popsw, popenc, reset, seqIdleHold, seqIdleKey, seqKeywaitAbort,
    seqKeywaitHold, seqKeywaitKeyptt, seqKeywaitKeytune, seqKeyedUnkey, seqKeyedHold, seqKeyedTimeout, seqUnmuteHold,
    seqUnmuteDone, seqTimedoutExit, seqTimedoutHold, edgePttIdle, edgePttPress, edgePttRelease, edgePttHeld,
    edgeTuneIdle, edgeTunePress, edgeTuneRelease, edgeTuneHeld, edgeKnobIdle, edgeKnobPress, edgeKnobReleaseShort,
    edgeKnobReleaseLong, edgeKnobHeld, qt0000, qt0001, qt0010, qt0011, qt0100, qt0101, qt0110, qt0111, qt1000,
    qt1001, qt1010, qt1011, qt1100, qt1101, qt1110, qt1111]

end Sys2Proof.Laws

namespace Sys2Proof.Machine

/-! ### Decoding what the encoder writes -/

/-- Row by row, at every value of the row's operand bits. -/
theorem decode_encode (i : Instr) : decode (encode i) = .ok i := by
  cases i with
  | nop | popsw | popenc | reset | seqKeywaitKeyptt | seqKeywaitKeytune | edgeKnobReleaseShort | edgeKnobReleaseLong
  | qt0000 | qt0001 | qt0010 | qt0011 | qt0100 | qt0101 | qt0110 | qt0111
  | qt1000 | qt1001 | qt1010 | qt1011 | qt1100 | qt1101 | qt1110 | qt1111 => rfl
  | seqKeywaitHold a | seqKeyedHold a | seqKeyedTimeout a | edgePttIdle a | edgePttPress a | edgePttRelease a
  | edgePttHeld a | edgeTuneIdle a | edgeTunePress a | edgeTuneRelease a | edgeTuneHeld a | edgeKnobIdle a
  | edgeKnobPress a | edgeKnobHeld a => cases a <;> rfl
  | qsample a b | seqIdleHold a b | seqIdleKey a b | seqKeywaitAbort a b | seqKeyedUnkey a b | seqUnmuteHold a b
  | seqUnmuteDone a b | seqTimedoutExit a b | seqTimedoutHold a b => cases a <;> cases b <;> rfl
  | msinc a b c => cases a <;> cases b <;> cases c <;> rfl

theorem decode_of_encode {i : Instr} {x : CodeWord} (h : encode i = x) : decode x = .ok i := h ▸ decode_encode i

/-- A word that is some instruction's encoding is the encoding of what it decodes to. -/
theorem encode_of_decode_of_encode {i j : Instr} {x : CodeWord} (hj : encode j = x) (hi : decode x = .ok i) :
    encode i = x := by
  obtain rfl : j = i := Except.ok.inj ((decode_of_encode hj).symm.trans hi)
  exact hj

/-- Settles O1. -/
theorem encodedInstructionDecodesToItself : Obligations.EncodedInstructionDecodesToItself := decode_encode

/-- Settles O4, word by word. -/
theorem specWordsDecode : Obligations.SpecWordsDecode :=
  ⟨rfl, rfl, rfl, rfl, rfl, rfl, rfl, rfl, rfl, rfl, rfl, rfl, rfl, rfl, rfl⟩

/-! ### The row a select word's fields name -/

/-- The row of R48 for a sequencer state and the three conditions. -/
def seqtRow : SeqState → (any tsel expired : Bool) → Instr
  | .idle, false, tsel, expired => .seqIdleHold tsel expired
  | .idle, true, tsel, expired => .seqIdleKey tsel expired
  | .keyWait, false, tsel, expired => .seqKeywaitAbort tsel expired
  | .keyWait, true, tsel, false => .seqKeywaitHold tsel
  | .keyWait, true, false, true => .seqKeywaitKeyptt
  | .keyWait, true, true, true => .seqKeywaitKeytune
  | .keyed, false, tsel, expired => .seqKeyedUnkey tsel expired
  | .keyed, true, tsel, false => .seqKeyedHold tsel
  | .keyed, true, tsel, true => .seqKeyedTimeout tsel
  | .unmuteWait, any, tsel, false => .seqUnmuteHold any tsel
  | .unmuteWait, any, tsel, true => .seqUnmuteDone any tsel
  | .timedOut, false, tsel, expired => .seqTimedoutExit tsel expired
  | .timedOut, true, tsel, expired => .seqTimedoutHold tsel expired

/-- The row of R49 for a line, its prior and its present sample, and `lng`. -/
def edgeRow : Line → (prev cur lng : Bool) → Instr
  | .ptt, false, false, lng => .edgePttIdle lng
  | .ptt, false, true, lng => .edgePttPress lng
  | .ptt, true, false, lng => .edgePttRelease lng
  | .ptt, true, true, lng => .edgePttHeld lng
  | .tune, false, false, lng => .edgeTuneIdle lng
  | .tune, false, true, lng => .edgeTunePress lng
  | .tune, true, false, lng => .edgeTuneRelease lng
  | .tune, true, true, lng => .edgeTuneHeld lng
  | .knob, false, false, lng => .edgeKnobIdle lng
  | .knob, false, true, lng => .edgeKnobPress lng
  | .knob, true, false, false => .edgeKnobReleaseShort
  | .knob, true, false, true => .edgeKnobReleaseLong
  | .knob, true, true, lng => .edgeKnobHeld lng

theorem encode_seqtRow (q : SeqState) (any tsel expired : Bool) : encode (seqtRow q any tsel expired) =
    .seqt (q.code ++ BitVec.ofBool any ++ BitVec.ofBool tsel ++ BitVec.ofBool expired) := by
  cases q <;> cases any <;> cases tsel <;> cases expired <;> rfl

theorem encode_edgeRow (l : Line) (prev cur lng : Bool) : encode (edgeRow l prev cur lng) =
    .edge (l.code ++ BitVec.ofBool prev ++ BitVec.ofBool cur ++ BitVec.ofBool lng) := by
  cases l <;> cases prev <;> cases cur <;> cases lng <;> rfl

/-- A sequencer select word is the encoding of a row, or its `SEQ` field is a reserved code (R48, R100). -/
theorem encode_seqtRow_or_reserved (T : SeqtWord) :
    (∃ q any tsel expired, encode (seqtRow q any tsel expired) = .seqt T) ∨
      decodeSeqt T = .error .reservedSeqCode := by
  have hfields : T.extractLsb' 3 3 ++ BitVec.ofBool (T.getLsbD 2) ++ BitVec.ofBool (T.getLsbD 1) ++
      BitVec.ofBool (T.getLsbD 0) = T := by
    revert T; decide
  have hcodes : ∀ c : BitVec 3, 5 ≤ c.toNat ∨
      ∃ q ∈ [SeqState.idle, .keyWait, .keyed, .unmuteWait, .timedOut], c = q.code := by decide
  rcases hcodes (T.extractLsb' 3 3) with hreserved | ⟨q, -, hq⟩
  · right
    unfold decodeSeqt
    split
    case h_14 => rfl
    all_goals omega
  · exact .inl ⟨q, T.getLsbD 2, T.getLsbD 1, T.getLsbD 0, by rw [encode_seqtRow, ← hq, hfields]⟩

/-- A switch edge select word is the encoding of a row, or its `line` field is the reserved code (R49). -/
theorem encode_edgeRow_or_reserved (E : EdgeWord) :
    (∃ l prev cur lng, encode (edgeRow l prev cur lng) = .edge E) ∨ decodeEdge E = .error .reservedLine := by
  have hfields : E.extractLsb' 3 2 ++ BitVec.ofBool (E.getLsbD 2) ++ BitVec.ofBool (E.getLsbD 1) ++
      BitVec.ofBool (E.getLsbD 0) = E := by
    revert E; decide
  have hcodes : ∀ c : BitVec 2, 3 ≤ c.toNat ∨ ∃ l ∈ [Line.ptt, .tune, .knob], c = l.code := by decide
  rcases hcodes (E.extractLsb' 3 2) with hreserved | ⟨l, -, hl⟩
  · right
    unfold decodeEdge
    split
    case h_14 => rfl
    all_goals omega
  · exact .inl ⟨l, E.getLsbD 2, E.getLsbD 1, E.getLsbD 0, by rw [encode_edgeRow, ← hl, hfields]⟩

/-- Every quadrature select word names a row (R50). -/
theorem encode_decodeQt : ∀ Q : QtWord, encode (decodeQt Q) = .qt Q := by decide

/-- An accepted word is the encoding of what it is read as: it is one of the six operations' words, or its fields name
a row. -/
theorem encode_of_decode {x : CodeWord} {i : Instr} (h : decode x = .ok i) : encode i = x := by
  cases x with
  | op S =>
    rcases decodeOp_cases h with ⟨rfl, rfl⟩ | ⟨a, b, c, rfl, rfl⟩ | ⟨a, b, rfl, rfl⟩ | ⟨rfl, rfl⟩ | ⟨rfl, rfl⟩ |
      ⟨rfl, rfl⟩
    · rfl
    · cases a <;> cases b <;> cases c <;> rfl
    · cases a <;> cases b <;> rfl
    · rfl
    · rfl
    · rfl
  | seqt T =>
    rcases encode_seqtRow_or_reserved T with ⟨q, any, tsel, expired, hrow⟩ | hreserved
    · exact encode_of_decode_of_encode hrow h
    · rw [decode, hreserved] at h
      cases h
  | edge E =>
    rcases encode_edgeRow_or_reserved E with ⟨l, prev, cur, lng, hrow⟩ | hreserved
    · exact encode_of_decode_of_encode hrow h
    · rw [decode, hreserved] at h
      cases h
  | qt Q =>
    cases h
    exact encode_decodeQt Q

/-- Settles O2. -/
theorem decodedWordIsTheEncoding : Obligations.DecodedWordIsTheEncoding := fun _ _ => encode_of_decode

/-! ### Reserved stimulus words -/

theorem exists_ite_eq_error {c : Prop} [Decidable c] {x y : Except DecodeError Instr} :
    (∃ e, (if c then x else y) = .error e) ↔ if c then (∃ e, x = .error e) else ∃ e, y = .error e := by
  split_ifs <;> rfl

/-- The reserved words by their fields (R44). -/
theorem decodeOp_error_iff (S : StimWord) : (∃ e, decodeOp S = .error e) ↔
    (S.extractLsb' 5 3 = 0b101#3 ∨ S.extractLsb' 5 3 = 0b110#3 ∨ S.extractLsb' 3 2 ≠ 0b00#2 ∨
      ((S.extractLsb' 5 3 = 0b000#3 ∨ S.extractLsb' 5 3 = 0b011#3 ∨ S.extractLsb' 5 3 = 0b100#3 ∨
          S.extractLsb' 5 3 = 0b111#3) ∧ S.extractLsb' 0 3 ≠ 0b000#3) ∨
      (S.extractLsb' 5 3 = 0b010#3 ∧ S.getLsbD 2 = true)) := by
  unfold decodeOp
  generalize S.extractLsb' 5 3 = op
  generalize S.extractLsb' 3 2 = z
  generalize S.extractLsb' 0 3 = arg
  generalize S.getLsbD 2 = b
  simp only [exists_ite_eq_error]
  have hop : op = 0b000#3 ∨ op = 0b001#3 ∨ op = 0b010#3 ∨ op = 0b011#3 ∨ op = 0b100#3 ∨ op = 0b101#3 ∨
      op = 0b110#3 ∨ op = 0b111#3 := by
    revert op; decide
  rcases hop with rfl | rfl | rfl | rfl | rfl | rfl | rfl | rfl <;> simp [imp_iff_not_or]

/-- Settles O3: the fields, the count over all words, and the refusing step. -/
theorem reservedStimulusWordsAreRefused : Obligations.ReservedStimulusWordsAreRefused :=
  ⟨decodeOp_error_iff, by decide +kernel, fun _ _ _ _ hstim herror => step_of_error hstim herror⟩

/-- Settles O6. -/
theorem stepRunsTheDecodedOperation : Obligations.StepRunsTheDecodedOperation :=
  ⟨fun _ _ _ _ hstim hdecode => step_of_ok hstim hdecode, fun _ hstim => step_of_nil hstim⟩

/-! ### The opcode table -/

/-- The opcode table, by format: each row as that of one of its instructions. -/
def tableRows : Format → List Row
  | .op => [Instr.nop, .msinc false false false, .qsample false false, .popsw, .popenc, .reset].map Instr.row
  | .seqt => [Instr.seqIdleHold false false, .seqIdleKey false false, .seqKeywaitAbort false false,
      .seqKeywaitHold false, .seqKeywaitKeyptt, .seqKeywaitKeytune, .seqKeyedUnkey false false, .seqKeyedHold false,
      .seqKeyedTimeout false, .seqUnmuteHold false false, .seqUnmuteDone false false, .seqTimedoutExit false false,
      .seqTimedoutHold false false].map Instr.row
  | .edge => [Instr.edgePttIdle false, .edgePttPress false, .edgePttRelease false, .edgePttHeld false,
      .edgeTuneIdle false, .edgeTunePress false, .edgeTuneRelease false, .edgeTuneHeld false, .edgeKnobIdle false,
      .edgeKnobPress false, .edgeKnobReleaseShort, .edgeKnobReleaseLong, .edgeKnobHeld false].map Instr.row
  | .qt => [Instr.qt0000, .qt0001, .qt0010, .qt0011, .qt0100, .qt0101, .qt0110, .qt0111,
      .qt1000, .qt1001, .qt1010, .qt1011, .qt1100, .qt1101, .qt1110, .qt1111].map Instr.row

/-- Every instruction's row is one of the table's: a row does not depend on the operands. -/
theorem row_mem_tableRows (i : Instr) : i.row ∈ tableRows i.row.format := by
  cases i <;> simp [tableRows, Instr.row]

/-- A word that matches a row of its format's table decodes to an instruction of that row: each word of the format
against each of its rows. -/
theorem decode_row_of_matchesWord {x : CodeWord} {r : Row} (hr : r ∈ tableRows x.format)
    (h : r.matchesWord x = true) : (decode x).map Instr.row = .ok r := by
  cases x with
  | op S =>
    have hwords : ∀ S : StimWord, ∀ r ∈ tableRows .op, r.matchesWord (.op S) = true →
        (decode (.op S)).map Instr.row = .ok r := by decide +kernel
    exact hwords S r hr h
  | seqt T =>
    have hwords : ∀ T : SeqtWord, ∀ r ∈ tableRows .seqt, r.matchesWord (.seqt T) = true →
        (decode (.seqt T)).map Instr.row = .ok r := by decide +kernel
    exact hwords T r hr h
  | edge E =>
    have hwords : ∀ E : EdgeWord, ∀ r ∈ tableRows .edge, r.matchesWord (.edge E) = true →
        (decode (.edge E)).map Instr.row = .ok r := by decide +kernel
    exact hwords E r hr h
  | qt Q =>
    have hwords : ∀ Q : QtWord, ∀ r ∈ tableRows .qt, r.matchesWord (.qt Q) = true →
        (decode (.qt Q)).map Instr.row = .ok r := by decide +kernel
    exact hwords Q r hr h

/-- Settles O5: a decoded word is its instruction's encoding, which matches its row; a word that matches a row has the
row's format, and the table of that format settles the rest. -/
theorem wordMatchesExactlyItsRow : Obligations.WordMatchesExactlyItsRow := by
  refine ⟨fun x i hdecode => ?_, fun x j hmatch => ?_⟩
  · obtain ⟨-, -, hmatch⟩ := Laws.EncodesItsRow.all i
    exact encode_of_decode hdecode ▸ hmatch
  · obtain ⟨hformat, -⟩ : j.row.format = x.format ∧ x.toNat &&& j.row.mask = j.row.pattern := by
      simpa [Row.matchesWord] using hmatch
    have hrow := decode_row_of_matchesWord (hformat ▸ row_mem_tableRows j) hmatch
    cases hdecode : decode x with
    | error e => rw [hdecode] at hrow; cases hrow
    | ok i => rw [hdecode] at hrow; exact ⟨i, rfl, Except.ok.inj hrow⟩

/-! ### A tick and a sample as rows -/

/-- R48: "The combination `any` = 0 with `tsel` = 1 cannot be formed". -/
theorem tselNeedsAny_anyKey (c : Params) (p t : Bool) : tselNeedsAny (anyKey p t) (tselKey c p t) = true := by
  cases hc : c.tuneOutWhenBoth <;> cases p <;> cases t <;> simp [tselNeedsAny, anyKey, tselKey, hc]

theorem seqtRow_wf (q : SeqState) {any tsel : Bool} (expired : Bool) (h : tselNeedsAny any tsel = true) :
    (seqtRow q any tsel expired).wf = true := by
  cases any with
  | true => cases q <;> cases tsel <;> cases expired <;> rfl
  | false =>
    obtain rfl : tsel = false := by simpa [tselNeedsAny] using h
    cases q <;> cases expired <;> rfl

/-- The TUNE step is the row of R49 that the prior and the present sample select. -/
theorem exec_edgeRow_tune (t lng : Bool) (s : State) :
    exec (edgeRow .tune s.tuneQ t lng) s = .next (sampleTune t s) := by
  unfold sampleTune
  cases s.tuneQ <;> cases t <;> rfl

/-- The PTT step is the row of R49 that the prior and the present sample select. -/
theorem exec_edgeRow_ptt (p lng : Bool) (s : State) :
    exec (edgeRow .ptt s.pttQ p lng) s = .next (samplePtt p s) := by
  unfold samplePtt
  cases s.pttQ <;> cases p <;> rfl

/-- The KNOB step is the row of R49 that the two samples and the hold select. -/
theorem exec_edgeRow_knob (k : Bool) (s : State) :
    exec (edgeRow .knob s.knobQ k (longPress s)) s = .next (sampleKnob k s) := by
  unfold sampleKnob
  cases s.knobQ <;> cases k <;> cases longPress s <;> rfl

/-- The sequencer's step is the row of R48 that its state and the three conditions select (R85). -/
theorem exec_seqtRow (p t : Bool) (s : State) :
    exec (seqtRow s.seq (anyKey p t) (tselKey s.cfg p t) (expired s)) s = .next (seqStep p t s) := by
  unfold seqStep
  cases s.seq <;> cases anyKey p t <;> cases tselKey s.cfg p t <;> cases expired s <;> rfl

/-- An `MSINC` that finds the divider at 9 is a tick at the new time (R105). -/
theorem exec_msinc_of_due {s : State} (h : s.tdiv = 9) (x y z : Bool) :
    exec (.msinc x y z) s = .next (tick x y z { s with ms := s.nextMs, tdiv := 0 }) := by
  have hdue : tickDue s = true := by simp [tickDue, tickMs, h]
  have hnow : tadd s.cfg s.ms 1 = s.nextMs := by rw [tadd, Nat.add_comm, State.nextMs]
  show Host.Outcome.next (msinc x y z s) = _
  rw [msinc, if_pos hdue, advanceMs, hnow]
  rfl

/-- Settles O29: each row is named by the fields of its word, and the rows run before it leave those fields as they
are. -/
theorem tickRunsItsSelectedRows : Obligations.TickRunsItsSelectedRows := by
  intro s x hdue
  let s0 : State := { s with ms := s.nextMs, tdiv := 0 }
  let s1 := sampleTune (!x.tuneN) s0
  let s2 := samplePtt (!x.pttN) s1
  let s3 := sampleKnob (!x.knobN) s2
  have hPtt : exec (edgeRow .ptt s0.pttQ (!x.pttN) (longPress s0)) s1 = .next s2 := by
    rw [← sampleTune_pttQ (!x.tuneN) s0]
    exact exec_edgeRow_ptt _ _ s1
  have hKnob : exec (edgeRow .knob s0.knobQ (!x.knobN) (longPress s0)) s2 = .next s3 := by
    have hprior : s2.knobQ = s0.knobQ := by simp [s2, s1]
    have hlng : longPress s2 = longPress s0 := by simp [longPress, s2, s1]
    rw [← hprior, ← hlng]
    exact exec_edgeRow_knob _ s2
  have hSeq : exec (seqtRow s0.seq (anyKey (!x.pttN) (!x.tuneN)) (tselKey s0.cfg (!x.pttN) (!x.tuneN)) (expired s0))
      (samplerStep (!x.pttN) (!x.tuneN) (!x.knobN) s0) = .next (tick x.pttN x.tuneN x.knobN s0) := by
    have hexp : expired (samplerStep (!x.pttN) (!x.tuneN) (!x.knobN) s0) = expired s0 := by simp [expired]
    rw [← samplerStep_seq (!x.pttN) (!x.tuneN) (!x.knobN) s0, ← samplerStep_cfg (!x.pttN) (!x.tuneN) (!x.knobN) s0,
      ← hexp]
    exact exec_seqtRow _ _ _
  exact ⟨s0, s1, s2, s3, _, _, _, _, _, rfl,
    decode_of_encode (encode_edgeRow ..), exec_edgeRow_tune _ (longPress s0) s0,
    decode_of_encode (encode_edgeRow ..), hPtt, decode_of_encode (encode_edgeRow ..), hKnob,
    decode_of_encode (encode_seqtRow ..), seqtRow_wf _ _ (tselNeedsAny_anyKey ..), hSeq, exec_msinc_of_due hdue ..⟩

theorem exists_sample : ∀ x : BitVec 2, ∃ a b, x = sample a b := by decide

/-- The quadrature row a word selects accumulates the word's count and takes its sample (R50). -/
theorem exec_decodeQt (prev cur : BitVec 2) (s : State) :
    exec (decodeQt (qtWord prev cur)) s = .next (quadAccumulate (quadCount (qtWord prev cur)) cur s) := by
  obtain ⟨a, b, rfl⟩ := exists_sample prev
  obtain ⟨c, d, rfl⟩ := exists_sample cur
  cases a <;> cases b <;> cases c <;> cases d <;> rfl

/-- Settles O30. -/
theorem sampleRunsItsSelectedRow : Obligations.SampleRunsItsSelectedRow := by
  intro s a b hvalid
  refine ⟨decodeQt (qtWord s.qprev (sample a b)), qsample a b s, rfl, ?_, rfl⟩
  rw [exec_decodeQt, qsample, if_pos hvalid]

/-! ### Milliseconds -/

/-- One millisecond counts the divider on modulo 10 (R105). -/
theorem msinc_tdiv {s : State} (h : s.tdiv.toNat ≤ 9) (x y z : Bool) :
    (msinc x y z s).tdiv.toNat = (s.tdiv.toNat + 1) % 10 := by
  rcases msinc_cases x y z s with ⟨hdue, heq⟩ | ⟨hdue, heq⟩ <;> rw [heq]
  · have h9 : s.tdiv = 9 := by simpa [tickDue, tickMs] using hdue
    simp [h9]
  · have h9 : s.tdiv ≠ 9 := by simpa [tickDue, tickMs] using hdue
    rw [State.setTdiv_tdiv]
    bv_omega

/-- Settles O19, by induction on the pins. -/
theorem millisecondsAdvanceClockAndDivider : Obligations.MillisecondsAdvanceClockAndDivider := by
  intro s xs
  induction xs generalizing s with
  | nil => exact fun hms hdiv => ⟨s, runWords_nil s, (Nat.mod_eq_of_lt hms).symm, by simp; omega, rfl⟩
  | cons x xs ih =>
    intro hms hdiv
    have hdiv' := msinc_tdiv hdiv x.pttN x.tuneN x.knobN
    obtain ⟨t, ht, hclock, hdivider, hstim⟩ := ih (msinc x.pttN x.tuneN x.knobN s)
      (by simpa using tadd_lt s.cfg s.ms 1) (by omega)
    refine ⟨t, by rw [List.map_cons, Pins.word, runWords_msinc, ht], ?_, ?_, by simpa using hstim⟩
    · rw [hclock, msinc_ms, msinc_cfg, tadd, Nat.mod_add_mod, List.length_cons]
      congr 1
      omega
    · rw [hdivider, hdiv', List.length_cons]
      omega

end Sys2Proof.Machine
end

section
/-! PROOFS. The encoder family: what a sample counts, that the decoder's registers depend on nothing but themselves and
the samples, and that over any run of clock cycles they are those of a decoder that samples in every cycle. -/
namespace Sys2Proof.Machine

/-! ### What a count does -/

/-- R61 to R64, by the three places the sum can fall. -/
theorem counted_quadAccumulate (d : Int) (cur : BitVec 2) (s : State) : Counted d cur s (quadAccumulate d cur s) := by
  rcases quadAccumulate_cases d cur s with ⟨hhigh, heq⟩ | ⟨hlt, hneg, heq⟩ | ⟨hlt, hnonneg, heq⟩ <;> rw [heq]
  · exact ⟨rfl, fun _ => ⟨rfl, pushedEnc_pushEnc .plus ((s.setQprev cur).setCnt 0)⟩,
      fun hneg => by omega, fun _ hlt => by omega⟩
  · exact ⟨rfl, fun hhigh => by omega, fun _ => ⟨rfl, pushedEnc_pushEnc .minus ((s.setQprev cur).setCnt _)⟩,
      fun hnonneg => by omega⟩
  · exact ⟨rfl, fun hhigh => by omega, fun hneg => by omega, fun _ _ => ⟨rfl, rfl, rfl⟩⟩

/-- A count writes `QPREV`, `CNT`, `ENCQ` and `ENC_ERR` only. -/
theorem quadAccumulate_writes (d : Int) (cur : BitVec 2) (s : State) :
    quadAccumulate d cur s =
      { s with
        qprev := (quadAccumulate d cur s).qprev, cnt := (quadAccumulate d cur s).cnt,
        encq := (quadAccumulate d cur s).encq, encErr := (quadAccumulate d cur s).encErr } := by
  rcases quadAccumulate_cases d cur s with ⟨-, heq⟩ | ⟨-, -, heq⟩ | ⟨-, -, heq⟩ <;> rw [heq] <;> rfl

/-- An instruction that accumulates a count completes as `QuadRowsCount` says a row does. -/
theorem row_counts {i : Instr} {d : Int} {cur : BitVec 2} {s : State}
    (h : exec i s = .next (quadAccumulate d cur s)) :
    ∃ t, exec i s = .next t ∧ Counted d cur s t ∧
      t = { s with qprev := t.qprev, cnt := t.cnt, encq := t.encq, encErr := t.encErr } :=
  ⟨_, h, counted_quadAccumulate d cur s, quadAccumulate_writes d cur s⟩

/-- Settles O28, row by row. -/
theorem quadRowsCount : Obligations.QuadRowsCount := by
  intro s
  simp only [List.forall_mem_cons, List.not_mem_nil, false_implies, implies_true, and_true]
  exact ⟨⟨row_counts rfl, row_counts rfl, row_counts rfl, row_counts rfl⟩,
    ⟨row_counts rfl, row_counts rfl, row_counts rfl, row_counts rfl⟩,
    row_counts rfl, row_counts rfl, row_counts rfl, row_counts rfl,
    row_counts rfl, row_counts rfl, row_counts rfl, row_counts rfl⟩

/-! ### What a sample does -/

theorem exec_qsample (a b : Bool) (s : State) : exec (.qsample a b) s = .next (qsample a b s) := rfl

/-- The first sample after reset (R56). -/
theorem qsample_of_not_valid (a b : Bool) {s : State} (h : s.qvalid = false) :
    qsample a b s = { s with qprev := sample a b, qvalid := true } := by
  simp [qsample, h, State.setQprev, State.setQvalid]

/-- A later sample counts the movement along the cycle (R57 to R60). -/
theorem qsample_of_valid (a b : Bool) {s : State} (h : s.qvalid = true) :
    qsample a b s = quadAccumulate (quadMove s.qprev (sample a b)) (sample a b) s := by
  rw [qsample, if_pos h, quadCount_qtWord]

/-- Settles O31. -/
theorem firstSampleOnlyLoads : Obligations.FirstSampleOnlyLoads :=
  fun _ a b h => congrArg _ (qsample_of_not_valid a b h)

/-- Settles O32: the table's count is the movement along the cycle, and a count writes the decoder and its queue only. -/
theorem sampleCountsAlongTheCycle : Obligations.SampleCountsAlongTheCycle := by
  intro s a b hvalid
  obtain ⟨t, ht, inputs, time, sampler, sequencer, sw, returns⟩ := exec_quadratureSampler (i := .qsample a b) rfl s
  obtain rfl : qsample a b s = t := by rw [exec_qsample] at ht; injection ht
  obtain ⟨-, hvalid'⟩ := qsample_prev a b s
  refine ⟨_, ht, ?_, hvalid', time, sampler, sequencer, sw, returns, inputs⟩
  rw [qsample_of_valid a b hvalid]
  exact counted_quadAccumulate _ _ s

/-- Settles O33, the sample being that of a cycle whose lines repeat. -/
theorem repeatedSampleChangesNothing : Obligations.RepeatedSampleChangesNothing := by
  intro s a b hvalid hprev hnonneg hlt
  let c : InPorts := ⟨false, false, true, true, true, a, b, false, false⟩
  have hrep : c.repeats s = true := (repeats_iff c s).mpr ⟨hvalid, hprev⟩
  exact congrArg _ (qsample_of_repeats hrep ⟨hnonneg, hlt⟩)

/-! ### States that agree in the decoder -/

/-- `t` has the parameters and the decoder registers of `s`, and where `pulses` holds the pulse queue and its counter
too. -/
structure DecoderAgrees (pulses : Prop) (s t : State) : Prop where
  cfg : t.cfg = s.cfg
  quad : SameQuad s t
  enc : pulses → SameEnc s t

section
variable {pulses : Prop} {s t u : State}

theorem DecoderAgrees.refl (s : State) : DecoderAgrees pulses s s := ⟨rfl, ⟨rfl, rfl, rfl⟩, fun _ => ⟨rfl, rfl⟩⟩

theorem DecoderAgrees.symm (h : DecoderAgrees pulses s t) : DecoderAgrees pulses t s := by
  obtain ⟨hcfg, ⟨hv, hp, hc⟩, henc⟩ := h
  refine ⟨hcfg.symm, ⟨hv.symm, hp.symm, hc.symm⟩, fun h => ?_⟩
  obtain ⟨hq, he⟩ := henc h
  exact ⟨hq.symm, he.symm⟩

theorem DecoderAgrees.trans (h : DecoderAgrees pulses s t) (h' : DecoderAgrees pulses t u) :
    DecoderAgrees pulses s u := by
  obtain ⟨hcfg, ⟨hv, hp, hc⟩, henc⟩ := h
  obtain ⟨hcfg', ⟨hv', hp', hc'⟩, henc'⟩ := h'
  refine ⟨hcfg'.trans hcfg, ⟨hv'.trans hv, hp'.trans hp, hc'.trans hc⟩, fun h => ?_⟩
  obtain ⟨hq, he⟩ := henc h
  obtain ⟨hq', he'⟩ := henc' h
  exact ⟨hq'.trans hq, he'.trans he⟩

theorem decoderAgrees_msinc (x y z : Bool) (s : State) : DecoderAgrees pulses s (msinc x y z s) :=
  ⟨msinc_cfg x y z s, ⟨msinc_qvalid x y z s, msinc_qprev x y z s, msinc_cnt x y z s⟩,
    fun _ => ⟨msinc_encq x y z s, msinc_encErr x y z s⟩⟩

theorem decoderAgrees_popsw (s : State) : DecoderAgrees pulses s (popsw s) :=
  ⟨rfl, ⟨rfl, rfl, rfl⟩, fun _ => ⟨rfl, rfl⟩⟩

/-- A pop takes a pulse from the queue and leaves the decoder's registers. -/
theorem decoderAgrees_popenc (h : ¬ pulses) (s : State) : DecoderAgrees pulses s (popenc s) :=
  ⟨rfl, ⟨rfl, rfl, rfl⟩, fun hpulses => absurd hpulses h⟩

theorem DecoderAgrees.resetBlock (h : DecoderAgrees pulses s t) :
    DecoderAgrees pulses (resetBlock s) (resetBlock t) :=
  ⟨h.cfg, ⟨rfl, rfl, rfl⟩, fun _ => ⟨rfl, rfl⟩⟩

theorem DecoderAgrees.setQprev (cur : BitVec 2) (h : DecoderAgrees pulses s t) :
    DecoderAgrees pulses (s.setQprev cur) (t.setQprev cur) := by
  obtain ⟨hv, -, hc⟩ := h.quad
  exact ⟨h.cfg, ⟨hv, rfl, hc⟩, h.enc⟩

theorem DecoderAgrees.setCnt (v : Int) (h : DecoderAgrees pulses s t) :
    DecoderAgrees pulses (s.setCnt v) (t.setCnt v) := by
  obtain ⟨hv, hp, -⟩ := h.quad
  exact ⟨h.cfg, ⟨hv, hp, rfl⟩, h.enc⟩

theorem DecoderAgrees.setQvalid (v : Bool) (h : DecoderAgrees pulses s t) :
    DecoderAgrees pulses (s.setQvalid v) (t.setQvalid v) := by
  obtain ⟨-, hp, hc⟩ := h.quad
  exact ⟨h.cfg, ⟨rfl, hp, hc⟩, h.enc⟩

/-- What a push makes of the queue depends on the queue, its counter and the parameters. -/
theorem DecoderAgrees.pushEnc (p : Pulse) (h : DecoderAgrees pulses s t) :
    DecoderAgrees pulses (pushEnc p s) (pushEnc p t) where
  cfg := h.cfg
  quad := h.quad
  enc hpulses := by
    obtain ⟨hq, he⟩ := h.enc hpulses
    simp only [SameEnc, pushEnc_encq, pushEnc_encErr, h.cfg, hq, he, and_self]

theorem DecoderAgrees.quadAccumulate (d : Int) (cur : BitVec 2) (h : DecoderAgrees pulses s t) :
    DecoderAgrees pulses (quadAccumulate d cur s) (quadAccumulate d cur t) := by
  obtain ⟨-, -, hcnt⟩ := h.quad
  have hcur := h.setQprev cur
  simp only [Machine.quadAccumulate, h.cfg, hcnt]
  split_ifs
  · exact (hcur.setCnt _).pushEnc _
  · exact (hcur.setCnt _).pushEnc _
  · exact hcur.setCnt _

/-- A sample reads the decoder and the parameters alone. -/
theorem DecoderAgrees.qsample (a b : Bool) (h : DecoderAgrees pulses s t) :
    DecoderAgrees pulses (qsample a b s) (qsample a b t) := by
  obtain ⟨hv, hp, -⟩ := h.quad
  simp only [Machine.qsample, hv, hp]
  split_ifs
  · exact h.quadAccumulate _ _
  · exact (h.setQprev _).setQvalid _

end

/-- One operation of the stimulus takes agreeing decoder registers to agreeing ones, whatever the pulse queues hold. -/
theorem DecoderAgrees.exec {S : StimWord} {i : Instr} {s s' t t' : State} (hd : decodeOp S = .ok i)
    (h : DecoderAgrees False s s') (ht : exec i s = .next t) (ht' : exec i s' = .next t') :
    DecoderAgrees False t t' := by
  have between {u u' : State} (hu : DecoderAgrees False s u) (hu' : DecoderAgrees False s' u') :
      DecoderAgrees False u u' := (hu.symm.trans h).trans hu'
  rcases decodeOp_cases hd with ⟨-, rfl⟩ | ⟨x, y, z, -, rfl⟩ | ⟨a, b, -, rfl⟩ | ⟨-, rfl⟩ | ⟨-, rfl⟩ | ⟨-, rfl⟩ <;>
    injection ht with ht <;> injection ht' with ht' <;> subst ht ht'
  · exact h
  · exact between (decoderAgrees_msinc x y z s) (decoderAgrees_msinc x y z s')
  · exact h.qsample a b
  · exact between (decoderAgrees_popsw s) (decoderAgrees_popsw s')
  · exact between (decoderAgrees_popenc id s) (decoderAgrees_popenc id s')
  · exact h.resetBlock

/-- Settles O47: both states run the same word, which takes agreeing decoders to agreeing decoders. -/
theorem decoderIgnoresEverythingElse : Obligations.DecoderIgnoresEverythingElse := by
  rintro s s' t t' ⟨hcfg, hstim⟩ hquad ht ht'
  cases hs : s.stim with
  | nil =>
    rw [step_of_nil hs] at ht
    rw [step_of_nil (hstim.trans hs)] at ht'
    injection ht with ht
    injection ht' with ht'
    exact ht ▸ ht' ▸ hquad
  | cons S rest =>
    cases hd : decodeOp S with
    | error e => rw [step_of_error hs hd] at ht; cases ht
    | ok i =>
      rw [step_of_ok hs hd] at ht
      rw [step_of_ok (hstim.trans hs) hd] at ht'
      exact (DecoderAgrees.exec hd (s := s.setStim rest) (s' := s'.setStim rest) ⟨hcfg, hquad, nofun⟩ ht ht').quad

/-! ### Words run one after the other -/

@[simp] theorem wordEffect_nop (s : State) : wordEffect wordNop s = s := by
  simp [wordEffect, runWords_nil]

@[simp] theorem wordEffect_reset (s : State) : wordEffect wordReset s = resetBlock s := by
  simp [wordEffect, runWords_nil]

/-- The state a list of defined stimulus words leads to. -/
def wordsEffect (ws : List StimWord) (s : State) : State := ws.foldl (fun u w => wordEffect w u) s

@[simp] theorem wordsEffect_nil (s : State) : wordsEffect [] s = s := rfl

@[simp] theorem wordsEffect_cons (w : StimWord) (ws : List StimWord) (s : State) :
    wordsEffect (w :: ws) s = wordsEffect ws (wordEffect w s) := rfl

theorem wordsEffect_append (ws vs : List StimWord) (s : State) :
    wordsEffect (ws ++ vs) s = wordsEffect vs (wordsEffect ws s) := List.foldl_append

/-- A defined word runs as its effect. -/
theorem runWords_cons_of_ok {w : StimWord} {i : Instr} (hd : decodeOp w = .ok i) (ws : List StimWord) (s : State) :
    runWords (w :: ws) s = runWords ws (wordEffect w s) := by
  rcases decodeOp_cases hd with ⟨rfl, -⟩ | ⟨x, y, z, rfl, -⟩ | ⟨a, b, rfl, -⟩ | ⟨rfl, -⟩ | ⟨rfl, -⟩ | ⟨rfl, -⟩ <;> simp

/-- Defined words complete, and what follows runs from the state they lead to. -/
theorem runWords_append {ws : List StimWord} (hdef : ∀ w ∈ ws, ∃ i, decodeOp w = .ok i) (vs : List StimWord)
    (s : State) : runWords (ws ++ vs) s = runWords vs (wordsEffect ws s) := by
  induction ws generalizing s with
  | nil => rfl
  | cons w ws ih =>
    obtain ⟨⟨i, hi⟩, hws⟩ := List.forall_mem_cons.mp hdef
    rw [List.cons_append, runWords_cons_of_ok hi, ih hws, wordsEffect_cons]

/-! ### One clock cycle -/

/-- What the cycle means for a decoder that samples in every cycle: `RESET`, or the sample of its lines. -/
def InPorts.decoderCycle (c : InPorts) (s : State) : State :=
  if c.rst then resetBlock s else qsample c.encA c.encB s

/-- I-CNT (R28). -/
def CntInRange (s : State) : Prop := 0 ≤ s.cnt ∧ s.cnt < (s.cfg.detentThresh : Int)

section
variable {pulses : Prop} {c : InPorts} {ws : List StimWord} {s t : State}

theorem CntInRange.of_agrees (h : CntInRange s) (hst : DecoderAgrees pulses s t) : CntInRange t := by
  obtain ⟨-, -, hcnt⟩ := hst.quad
  rwa [CntInRange, hst.cfg, hcnt]

/-- Both wraps of a count land in the range when it is not empty. -/
theorem CntInRange.quadAccumulate (d : Int) (cur : BitVec 2) (h : CntInRange s) :
    CntInRange (quadAccumulate d cur s) := by
  obtain ⟨hnonneg, hlt⟩ := h
  rw [CntInRange, quadAccumulate_cfg]
  rcases quadAccumulate_cases d cur s with ⟨-, heq⟩ | ⟨-, -, heq⟩ | ⟨hlt', hnonneg', heq⟩ <;> rw [heq] <;>
    simp only [pushEnc_cnt, State.setCnt_cnt] <;> omega

theorem CntInRange.decoderCycle (c : InPorts) (h : CntInRange s) : CntInRange (c.decoderCycle s) := by
  obtain ⟨hnonneg, hlt⟩ := h
  have hreset : CntInRange (resetBlock s) := ⟨Int.le_refl 0, Int.lt_of_le_of_lt hnonneg hlt⟩
  unfold InPorts.decoderCycle
  split_ifs
  · exact hreset
  · rcases qsample_cases c.encA c.encB s with ⟨-, heq⟩ | ⟨-, heq⟩ <;> rw [heq]
    · exact ⟨hnonneg, hlt⟩
    · exact CntInRange.quadAccumulate _ _ ⟨hnonneg, hlt⟩

theorem DecoderAgrees.decoderCycle (c : InPorts) (h : DecoderAgrees pulses s t) :
    DecoderAgrees pulses (c.decoderCycle s) (c.decoderCycle t) := by
  unfold InPorts.decoderCycle
  split_ifs
  · exact h.resetBlock
  · exact h.qsample _ _

theorem mem_strobes_iff {w : StimWord} : w ∈ c.strobes ↔ (c.msEn = true ∧ w = wordMsinc c.pttN c.tuneN c.knobN) ∨
    (c.swqPop = true ∧ w = wordPopsw) ∨ (c.encqPop = true ∧ w = wordPopenc) := by
  simp [InPorts.strobes]

/-- The operations the strobes ask for leave the decoder, and without a pop of pulses its queue. -/
theorem decoderAgrees_strobes (hpop : pulses → c.encqPop = false) (hws : ∀ w ∈ ws, w ∈ c.strobes) (s : State) :
    DecoderAgrees pulses s (wordsEffect ws s) := by
  induction ws generalizing s with
  | nil => exact .refl s
  | cons w ws ih =>
    obtain ⟨hw, hrest⟩ := List.forall_mem_cons.mp hws
    refine DecoderAgrees.trans ?_ (ih hrest (wordEffect w s))
    rcases mem_strobes_iff.mp hw with ⟨-, rfl⟩ | ⟨-, rfl⟩ | ⟨hen, rfl⟩
    · exact wordEffect_msinc _ _ _ s ▸ decoderAgrees_msinc _ _ _ s
    · exact wordEffect_popsw s ▸ decoderAgrees_popsw s
    · exact wordEffect_popenc s ▸ decoderAgrees_popenc (fun h => by simp [hpop h] at hen) s

/-- The sample and the strobes in any order sample once: the strobes before it and those after it leave the decoder. -/
theorem decoderAgrees_of_perm (hpop : pulses → c.encqPop = false) (hp : ws.Perm (c.sampleWord :: c.strobes))
    (s : State) : DecoderAgrees pulses (qsample c.encA c.encB s) (wordsEffect ws s) := by
  obtain ⟨before, after, rfl⟩ := List.append_of_mem (hp.mem_iff.mpr (.head _))
  have hothers : (before ++ after).Perm c.strobes := (List.perm_middle.symm.trans hp).cons_inv
  have hbefore : ∀ w ∈ before, w ∈ c.strobes := fun w hw => hothers.subset (List.mem_append_left _ hw)
  have hafter : ∀ w ∈ after, w ∈ c.strobes := fun w hw => hothers.subset (List.mem_append_right _ hw)
  rw [wordsEffect_append, wordsEffect_cons, InPorts.sampleWord, wordEffect_q]
  exact ((decoderAgrees_strobes hpop hbefore s).qsample _ _).trans (decoderAgrees_strobes hpop hafter _)

/-- Every admitted form of a cycle leaves the decoder as if its sample had been taken: a sample left out repeats, and
so changes nothing (R59, R65). -/
theorem decoderAgrees_of_admits (hpop : pulses → c.encqPop = false) (hcnt : CntInRange s)
    (ha : c.admits s ws = true) : DecoderAgrees pulses (c.decoderCycle s) (wordsEffect ws s) := by
  unfold InPorts.decoderCycle
  rcases (admits_cases c s ws).mp ha with ⟨hrst, rfl⟩ | ⟨hrst, hp⟩ | ⟨hrst, hrep, -, rfl⟩ | ⟨hrst, hrep, -, hp⟩ <;>
    simp only [hrst, if_true, Bool.false_eq_true, if_false]
  · simpa using DecoderAgrees.refl (resetBlock s)
  · exact decoderAgrees_of_perm hpop hp s
  · rw [qsample_of_repeats hrep hcnt]
    simpa using DecoderAgrees.refl s
  · rw [qsample_of_repeats hrep hcnt]
    exact decoderAgrees_strobes hpop (fun _ hw => hp.subset hw) s

/-- An admitted form of a cycle holds defined words only. -/
theorem decodes_of_admits (ha : c.admits s ws = true) : ∀ w ∈ ws, ∃ i, decodeOp w = .ok i := by
  have hcycle : ∀ w ∈ c.sampleWord :: c.strobes, ∃ i, decodeOp w = .ok i := by
    intro w hw
    have hmem := List.mem_map_of_mem (f := decodeOp) hw
    rw [map_decodeOp_cycle] at hmem
    obtain ⟨i, -, hi⟩ := List.mem_map.mp hmem
    exact ⟨i, hi.symm⟩
  rcases (admits_cases c s ws).mp ha with ⟨-, rfl⟩ | ⟨-, hp⟩ | ⟨-, -, -, rfl⟩ | ⟨-, -, -, hp⟩
  · simp
  · exact fun w hw => hcycle w (hp.subset hw)
  · simp
  · exact fun w hw => hcycle w (.tail _ (hp.subset hw))

end

/-! ### Runs of clock cycles -/

/-- The run of the decoder that samples in every cycle. -/
def decoderRun (cs : List (InPorts × List StimWord)) (s : State) : State :=
  cs.foldl (fun u x => x.1.decoderCycle u) s

/-- It is what running `RESET` or the sample of each cycle, and nothing else, leads to. -/
theorem runWords_decoderRun (cs : List (InPorts × List StimWord)) (s : State) :
    runWords (cs.map (fun x => if x.1.rst then wordReset else wordQ x.1.encA x.1.encB)) s =
      .next (decoderRun cs s) := by
  induction cs generalizing s with
  | nil => exact runWords_nil s
  | cons x cs ih =>
    rw [List.map_cons, decoderRun, List.foldl_cons, InPorts.decoderCycle]
    split_ifs
    · rw [runWords_reset]
      exact ih _
    · rw [runWords_q]
      exact ih _

/-- After a cycle without reset the decoder that samples in every cycle holds that cycle's lines. -/
theorem decoderRun_prev {cs : List (InPorts × List StimWord)} {c : InPorts} {ws : List StimWord}
    (hlast : cs.getLast? = some (c, ws)) (hrst : c.rst = false) (s : State) :
    (decoderRun cs s).qprev = sample c.encA c.encB ∧ (decoderRun cs s).qvalid = true := by
  obtain ⟨before, rfl⟩ := List.getLast?_eq_some_iff.mp hlast
  have hend : decoderRun (before ++ [(c, ws)]) s = qsample c.encA c.encB (decoderRun before s) := by
    simp [decoderRun, InPorts.decoderCycle, hrst]
  rw [hend]
  exact qsample_prev _ _ _

/-- An admitted run completes and keeps agreeing with the decoder that samples in every cycle: induction on the cycles,
the two runs starting from states that agree. -/
theorem decoderAgrees_of_admittedRun {pulses : Prop} {cs : List (InPorts × List StimWord)} {s u : State}
    (hpop : pulses → ∀ x ∈ cs, x.1.encqPop = false) (hcnt : CntInRange s) (hagree : DecoderAgrees pulses u s)
    (hrun : admittedRun cs s = true) :
    ∃ t, runWords (cs.flatMap (fun x => x.2)) s = .next t ∧ DecoderAgrees pulses (decoderRun cs u) t := by
  induction cs generalizing s u with
  | nil => exact ⟨s, runWords_nil s, hagree⟩
  | cons x cs ih =>
    obtain ⟨c, ws⟩ := x
    obtain ⟨ha, hrest⟩ : c.admits s ws = true ∧ admittedRun cs (wordsEffect ws s) = true := by
      rw [admittedRun, Bool.and_eq_true] at hrun
      obtain ⟨ha, hrest⟩ := hrun
      have hws := runWords_append (decodes_of_admits ha) [] s
      rw [List.append_nil, runWords_nil] at hws
      rw [hws] at hrest
      exact ⟨ha, hrest⟩
    have hcycle := decoderAgrees_of_admits (fun h => hpop h _ (.head cs)) hcnt ha
    obtain ⟨t, ht, hdecoder⟩ := ih (fun h y hy => hpop h y (.tail _ hy)) ((hcnt.decoderCycle c).of_agrees hcycle)
      ((hagree.decoderCycle c).trans hcycle) hrest
    refine ⟨t, ?_, hdecoder⟩
    rw [List.flatMap_cons, runWords_append (decodes_of_admits ha), ht]

/-- Settles O56: the two runs start from one state, and the decoder that samples in every cycle ends with the last
cycle's lines. -/
theorem decoderFollowsEveryClockCycle : Obligations.DecoderFollowsEveryClockCycle := by
  intro s cs hnonneg hlt hrun
  obtain ⟨t, ht, hdecoder⟩ := decoderAgrees_of_admittedRun (pulses := ∀ x ∈ cs, x.1.encqPop = false) id ⟨hnonneg, hlt⟩
    (.refl s) hrun
  refine ⟨t, decoderRun cs s, ht, runWords_decoderRun cs s, hdecoder.quad, hdecoder.enc, fun c ws hlast hrst => ?_⟩
  obtain ⟨hprev, hvalid⟩ := decoderRun_prev hlast hrst s
  obtain ⟨hvalid', hprev', -⟩ := hdecoder.quad
  exact ⟨hvalid'.trans hvalid, hprev'.trans hprev⟩

end Sys2Proof.Machine
end

section
/-! PROOFS. The switch sampler family: the rows of the edge word, the registers a tick writes for the sampler, the
events a tick queues, and how a KNOB hold is classified. -/
namespace Sys2Proof.Machine

/-! ### The edge rows -/

/-- An instruction that pushes one event completes as `EdgeRowsAct` says a row with an event does. -/
theorem row_pushes {i : Instr} {e : SwEvent} {s : State} (h : exec i s = .next (pushSw e s)) :
    ∃ t, exec i s = .next t ∧ PushedSw e s t ∧ t = { s with swq := t.swq, swErr := t.swErr } :=
  ⟨_, h, pushedSw_pushSw e s, rfl⟩

/-- Settles O27, row by row. -/
theorem edgeRowsAct : Obligations.EdgeRowsAct := by
  intro s lng
  simp only [List.forall_mem_cons, List.not_mem_nil, false_implies, implies_true, and_true]
  exact ⟨⟨row_pushes rfl, row_pushes rfl, row_pushes rfl, row_pushes rfl, row_pushes rfl, row_pushes rfl⟩,
    rfl, rfl, rfl, rfl, rfl, rfl, rfl⟩

/-! ### The registers of the sampler -/

/-- The KNOB step writes the time-stamp at a press edge only (R77, R78). -/
theorem sampleKnob_knobT0 (k : Bool) (s : State) :
    (sampleKnob k s).knobT0 = if s.knobQ = false ∧ k = true then s.ms else s.knobT0 := by
  rcases sampleKnob_cases k s with ⟨hq, hk, heq⟩ | ⟨hq, -, -, heq⟩ | ⟨hq, -, -, heq⟩ | ⟨hq, heq⟩ <;> rw [heq]
  · rw [if_pos ⟨hq, hk⟩, State.setKnobT0_knobT0]
  · rw [if_neg (by simp [hq]), pushSw_knobT0]
  · rw [if_neg (by simp [hq]), pushSw_knobT0]
  · rw [if_neg (by simp [hq])]

/-- A tick writes the time-stamp at a press edge only, whatever PTT, TUNE and the sequencer do. -/
theorem tick_knobT0 (x y z : Bool) (s : State) :
    (tick x y z s).knobT0 = if s.knobQ = false ∧ z = false then s.ms else s.knobT0 := by
  simp [tick, samplerStep, sampleKnob_knobT0, asserted]

/-- Settles O17: the tick's registers, field by field. -/
theorem tickSamplesAndStamps : Obligations.TickSamplesAndStamps := by
  intro s x hdue
  exact ⟨_, exec_msinc_of_due hdue .., tick_ms .., tick_tdiv .., tick_pttQ .., tick_tuneQ .., tick_knobQ ..,
    tick_knobT0 .., ⟨tick_qvalid .., tick_qprev .., tick_cnt ..⟩, ⟨tick_encq .., tick_encErr ..⟩,
    ⟨tick_swRet .., tick_encRet ..⟩, tick_cfg .., tick_stim ..⟩

/-! ### Several pushes in a row -/

/-- Pushes a list of events, the first one first. -/
def pushEvents (es : List SwEvent) (s : State) : State := es.foldl (fun u e => pushSw e u) s

@[simp] theorem pushEvents_nil (s : State) : pushEvents [] s = s := rfl

@[simp] theorem pushEvents_cons (e : SwEvent) (es : List SwEvent) (s : State) :
    pushEvents (e :: es) s = pushEvents es (pushSw e s) := rfl

theorem pushEvents_append (es fs : List SwEvent) (s : State) :
    pushEvents (es ++ fs) s = pushEvents fs (pushEvents es s) := List.foldl_append

/-- With room for all of them, the events are the new tail and none is counted, whatever the error counter holds. -/
theorem pushEvents_of_room {es : List SwEvent} {s : State} (h : s.swq.length + es.length ≤ s.cfg.swqDepth) :
    pushEvents es s = s.setSw (s.swq ++ es) s.swErr := by
  induction es generalizing s with
  | nil => simp [State.setSw]
  | cons e es ih =>
    rw [List.length_cons] at h
    rw [pushEvents_cons, pushSw_of_room (by omega), ih (by simp; omega)]
    simp [State.setSw]

/-- All that a push to the event queue reads is the same: the capacity, the queue and its counter. -/
abbrev SameSwPort (s t : State) : Prop := t.cfg = s.cfg ∧ SameSw s t

theorem SameSwPort.pushSw {s t : State} (h : SameSwPort s t) (e : SwEvent) :
    SameSwPort (pushSw e s) (pushSw e t) := by
  obtain ⟨hcfg, hswq, herr⟩ := h
  refine ⟨hcfg, ?_, ?_⟩ <;> simp [hcfg, hswq, herr]

theorem SameSwPort.pushEvents {s t : State} (h : SameSwPort s t) (es : List SwEvent) :
    SameSwPort (pushEvents es s) (pushEvents es t) := by
  induction es generalizing s t with
  | nil => exact h
  | cons e es ih => exact ih (h.pushSw e)

/-- To the event queue, `t` is `s` with the events `es` pushed. -/
abbrev PushedEvents (es : List SwEvent) (s t : State) : Prop := SameSwPort (pushEvents es s) t

theorem PushedEvents.trans {es fs : List SwEvent} {s t u : State} (h : PushedEvents es s t)
    (h' : PushedEvents fs t u) : PushedEvents (es ++ fs) s u := by
  obtain ⟨hcfg, hswq, herr⟩ := SameSwPort.pushEvents h fs
  obtain ⟨hcfg', hswq', herr'⟩ := h'
  rw [PushedEvents, pushEvents_append]
  exact ⟨hcfg'.trans hcfg, hswq'.trans hswq, herr'.trans herr⟩

/-! ### The events of a tick -/

/-- The part of `tickEvents` that TUNE contributes (R75, R76). -/
def tuneEvents (tuneN : Bool) (s : State) : List SwEvent :=
  if s.tuneQ = tuneN then [if tuneN then .tuneReleased else .tunePressed] else []

/-- The part of `tickEvents` that PTT contributes (R73, R74). -/
def pttEvents (pttN : Bool) (s : State) : List SwEvent :=
  if s.pttQ = pttN then [if pttN then .pttReleased else .pttPressed] else []

/-- The part of `tickEvents` that KNOB contributes (R77 to R79). -/
def knobEvents (now : Time) (knobN : Bool) (s : State) : List SwEvent :=
  if s.knobQ = true ∧ knobN = true then
    [if 1000 ≤ tdiff s.cfg now s.knobT0 then .knobReleasedLong else .knobReleased]
  else []

/-- The part of `tickEvents` that the sequencer contributes (R94, R98). -/
def seqEvents (now : Time) (pttN tuneN : Bool) (s : State) : List SwEvent :=
  if s.seq = .keyed ∧ (pttN = false ∨ tuneN = false) ∧ 0 ≤ tdiff s.cfg now s.deadline then [.txTimedOutEntry]
  else if s.seq = .timedOut ∧ pttN = true ∧ tuneN = true then [.txTimedOutExit] else []

/-- The order of R81. -/
theorem tickEvents_eq (now : Time) (x : Pins) (s : State) : tickEvents now x s =
    tuneEvents x.tuneN s ++ pttEvents x.pttN s ++ knobEvents now x.knobN s ++ seqEvents now x.pttN x.tuneN s := rfl

theorem pushedEvents_sampleTune (n : Bool) (s : State) :
    PushedEvents (tuneEvents n s) s (sampleTune (asserted n) s) := by
  unfold sampleTune tuneEvents
  cases s.tuneQ <;> cases n <;> exact ⟨rfl, rfl, rfl⟩

theorem pushedEvents_samplePtt (n : Bool) (s : State) :
    PushedEvents (pttEvents n s) s (samplePtt (asserted n) s) := by
  unfold samplePtt pttEvents
  cases s.pttQ <;> cases n <;> exact ⟨rfl, rfl, rfl⟩

/-- A press edge writes the time-stamp and queues nothing; a release edge queues the event of the hold. -/
theorem pushedEvents_sampleKnob (n : Bool) (s : State) :
    PushedEvents (knobEvents s.ms n s) s (sampleKnob (asserted n) s) := by
  have hevents : knobEvents s.ms n s = if s.knobQ = true ∧ n = true then
      [if longPress s = true then .knobReleasedLong else .knobReleased] else [] := by
    simp only [knobEvents, longPress, decide_eq_true_iff]
    rfl
  rw [hevents]
  unfold sampleKnob
  cases s.knobQ <;> cases n <;> cases longPress s <;> exact ⟨rfl, rfl, rfl⟩

/-- Of the sequencer's rows only the entry to TIMED_OUT and the exit from it queue an event. -/
theorem pushedEvents_seqStep (pttN tuneN : Bool) (s : State) :
    PushedEvents (seqEvents s.ms pttN tuneN s) s (seqStep (asserted pttN) (asserted tuneN) s) := by
  have hevents : seqEvents s.ms pttN tuneN s =
      if s.seq = .keyed ∧ anyKey (asserted pttN) (asserted tuneN) = true ∧ expired s = true then [.txTimedOutEntry]
      else if s.seq = .timedOut ∧ anyKey (asserted pttN) (asserted tuneN) = false then [.txTimedOutExit] else [] := by
    cases pttN <;> cases tuneN <;> simp [seqEvents, anyKey, asserted, expired]
  rw [hevents]
  generalize asserted pttN = p, asserted tuneN = t
  unfold seqStep
  cases s.seq with
  | idle => cases anyKey p t <;> exact ⟨rfl, rfl, rfl⟩
  | keyWait => cases anyKey p t <;> cases expired s <;> cases tselKey s.cfg p t <;> exact ⟨rfl, rfl, rfl⟩
  | keyed => cases anyKey p t <;> cases expired s <;> exact ⟨rfl, rfl, rfl⟩
  | unmuteWait => cases expired s <;> exact ⟨rfl, rfl, rfl⟩
  | timedOut => cases anyKey p t <;> exact ⟨rfl, rfl, rfl⟩

/-- A tick queues the events of TUNE, PTT, KNOB and the sequencer in that order: each step's events are those of the
state the tick started from, since the steps before it leave what it reads alone. -/
theorem pushedEvents_tick (x : Pins) (s : State) :
    PushedEvents (tickEvents s.ms x s) s (tick x.pttN x.tuneN x.knobN s) := by
  let s1 := sampleTune (asserted x.tuneN) s
  let s2 := samplePtt (asserted x.pttN) s1
  let s3 := samplerStep (asserted x.pttN) (asserted x.tuneN) (asserted x.knobN) s
  have hPtt : pttEvents x.pttN s1 = pttEvents x.pttN s := by simp [pttEvents, s1]
  have hKnob : knobEvents s2.ms x.knobN s2 = knobEvents s.ms x.knobN s := by simp [knobEvents, s1, s2]
  have hSeq : seqEvents s3.ms x.pttN x.tuneN s3 = seqEvents s.ms x.pttN x.tuneN s := by simp [seqEvents, s3]
  have hs3 : PushedEvents (knobEvents s2.ms x.knobN s2) s2 s3 := pushedEvents_sampleKnob x.knobN s2
  rw [tickEvents_eq, ← hPtt, ← hKnob, ← hSeq]
  exact (((pushedEvents_sampleTune _ s).trans (pushedEvents_samplePtt _ s1)).trans hs3).trans
    (pushedEvents_seqStep _ _ s3)

/-- The `MSINC` that contains a tick queues the tick's events at the new time. -/
theorem exec_msinc_pushedEvents {s : State} (x : Pins) (hdue : s.tdiv = 9) :
    ∃ t, exec x.instr s = .next t ∧ PushedEvents (tickEvents s.nextMs x s) s t := by
  let now : State := { s with ms := s.nextMs, tdiv := 0 }
  have hnow : PushedEvents [] s now := ⟨rfl, rfl, rfl⟩
  exact ⟨_, exec_msinc_of_due hdue .., hnow.trans (pushedEvents_tick x now)⟩

/-- Settles O18: the events pushed one by one, in the closed form of several pushes. -/
theorem tickPushesEventsInOrder : Obligations.TickPushesEventsInOrder := by
  intro s x hdue herr
  obtain ⟨t, ht, -, hswq, hcount⟩ := exec_msinc_pushedEvents x hdue
  rw [pushEvents, foldl_pushSw _ herr] at hswq hcount
  exact ⟨t, ht, hswq, hcount⟩

/-! ### The KNOB hold -/

/-- A tick has at most one event of each of TUNE, PTT, KNOB and the sequencer. -/
theorem tickEvents_length_le (now : Time) (x : Pins) (s : State) : (tickEvents now x s).length ≤ 4 := by
  have hTune : (tuneEvents x.tuneN s).length ≤ 1 := by unfold tuneEvents; split <;> simp
  have hPtt : (pttEvents x.pttN s).length ≤ 1 := by unfold pttEvents; split <;> simp
  have hKnob : (knobEvents now x.knobN s).length ≤ 1 := by unfold knobEvents; split <;> simp
  have hSeq : (seqEvents now x.pttN x.tuneN s).length ≤ 1 := by unfold seqEvents; (repeat' split) <;> simp
  simp only [tickEvents_eq, List.length_append]
  omega

/-- A KNOB event among the tick's events is one that KNOB contributes. -/
theorem mem_tickEvents_iff_mem_knobEvents {e : SwEvent} (he : e = .knobReleased ∨ e = .knobReleasedLong) (now : Time)
    (x : Pins) (s : State) : e ∈ tickEvents now x s ↔ e ∈ knobEvents now x.knobN s := by
  have hTune : e ∉ tuneEvents x.tuneN s := by
    unfold tuneEvents
    rcases he with rfl | rfl <;> cases x.tuneN <;> split <;> simp
  have hPtt : e ∉ pttEvents x.pttN s := by
    unfold pttEvents
    rcases he with rfl | rfl <;> cases x.pttN <;> split <;> simp
  have hSeq : e ∉ seqEvents now x.pttN x.tuneN s := by
    unfold seqEvents
    rcases he with rfl | rfl <;> (repeat' split) <;> simp
  simp [tickEvents_eq, hTune, hPtt, hSeq]

/-- A reading `h` counts after `b` has distance `h` below half the range, and reads as negative from there on (R108,
R112). -/
theorem tdiff_add_mod {c : Params} {b h : Nat} (hw : 1 ≤ c.w) (hh : h < 2 ^ c.w) :
    tdiff c ((b + h) % 2 ^ c.w) b = if h < 2 ^ (c.w - 1) then (h : Int) else (h : Int) - ((2 ^ c.w : Nat) : Int) := by
  have hdouble : 2 ^ (c.w - 1) * 2 = 2 ^ c.w := Nat.two_pow_pred_mul_two hw
  have hmod : ((((b + h) % 2 ^ c.w : Nat) : Int) - b) % ((2 ^ c.w : Nat) : Int) = h % ((2 ^ c.w : Nat) : Int) := by
    rw [Int.natCast_mod, Int.emod_sub_emod]
    congr 1
    omega
  split
  · exact tdiff_eq_of_mod hw hmod (by omega) (by omega)
  · exact tdiff_eq_of_mod hw (by rw [hmod, Int.sub_emod_right]) (by omega) (by omega)

/-- R111 with R112: the hold is long from 1000 on and below half the clock's range. -/
theorem long_hold_iff {c : Params} {b h : Nat} (hw : 1 ≤ c.w) (hh : h < 2 ^ c.w) :
    1000 ≤ tdiff c ((b + h) % 2 ^ c.w) b ↔ 1000 ≤ h ∧ h < 2 ^ (c.w - 1) := by
  rw [tdiff_add_mod hw hh]
  split <;> omega

/-- Settles O55: with room for four all the events of the tick are queued, and which KNOB event is among them is decided
by the hold. -/
theorem knobHoldIsClassified : Obligations.KnobHoldIsClassified := by
  intro s x h ⟨hw, _⟩ hdue hq hn hh hnow hroom
  obtain ⟨t, ht, -, hswq, -⟩ := exec_msinc_pushedEvents x hdue
  have hlen := tickEvents_length_le s.nextMs x s
  rw [pushEvents_of_room (by omega)] at hswq
  have hlong : 1000 ≤ tdiff s.cfg s.nextMs s.knobT0 ↔ 1000 ≤ h ∧ h < 2 ^ (s.cfg.w - 1) := by
    rw [hnow]
    exact long_hold_iff (by omega) hh
  have hshort : ¬ (1000 ≤ h ∧ h < 2 ^ (s.cfg.w - 1)) ↔ h < 1000 ∨ 2 ^ (s.cfg.w - 1) ≤ h := by omega
  refine ⟨t, _, ht, hswq, ?_, ?_⟩
  · rw [mem_tickEvents_iff_mem_knobEvents (.inr rfl), ← hlong]
    simp [knobEvents, hq, hn]
  · rw [mem_tickEvents_iff_mem_knobEvents (.inl rfl), ← hshort, ← hlong]
    simp [knobEvents, hq, hn]

end Sys2Proof.Machine
end

section
/-! PROOFS. The sequencer family, first part: what one tick makes of the sequencer's registers, said once row by row
(R48, R85); the clauses, the rows as instructions and the safety of single steps follow from it. -/
namespace Sys2Proof.Machine

/-! ### What one tick does -/

/-- The values of the sequencer's registers. -/
abbrev SequencerIs (t : State) (q : SeqState) (deadline : Time) (mute pttOut tuneOut : Bool) : Prop :=
  t.seq = q ∧ t.deadline = deadline ∧ t.mute = mute ∧ t.pttOut = pttOut ∧ t.tuneOut = tuneOut

theorem Pins.keyDown_iff (x : Pins) : x.keyDown ↔ anyKey (asserted x.pttN) (asserted x.tuneN) = true := by
  simp [Pins.keyDown, anyKey, asserted]

theorem Pins.released_iff (x : Pins) : x.released ↔ anyKey (asserted x.pttN) (asserted x.tuneN) = false := by
  simp [Pins.released, anyKey, asserted]

theorem Pins.keyDown.not_released {x : Pins} (key : x.keyDown) : ¬ x.released := by
  rw [Pins.keyDown_iff] at key
  simp [Pins.released_iff, key]

/-- R110 at the time of the state. -/
theorem expired_iff (s : State) : expired s = true ↔ 0 ≤ tdiff s.cfg s.ms s.deadline := by simp [expired]

theorem expired_eq_false_iff (s : State) : expired s = false ↔ tdiff s.cfg s.ms s.deadline < 0 := by simp [expired]

theorem tadd_eq_mod (c : Params) (a k : Time) : tadd c a k = (a + k) % 2 ^ c.w := by rw [tadd, Nat.add_comm]

/-- What a tick on the pins `x` makes of the sequencer's registers, `s` being the state before the `MSINC` that contains
it and `t` the state after: the rows of R48 by the state of `SEQ`, each with its condition at the new time. -/
inductive SequencerTick (x : Pins) (s t : State) : SeqState → Prop
  | idleHold (released : x.released) (same : SameSequencer s t) : SequencerTick x s t .idle
  | idleKey (key : x.keyDown)
      (after : SequencerIs t .keyWait ((s.nextMs + 250) % 2 ^ s.cfg.w) true s.pttOut s.tuneOut) :
      SequencerTick x s t .idle
  | keyWaitAbort (released : x.released) (after : SequencerIs t .idle s.deadline false s.pttOut s.tuneOut) :
      SequencerTick x s t .keyWait
  | keyWaitHold (key : x.keyDown) (early : tdiff s.cfg s.nextMs s.deadline < 0) (same : SameSequencer s t) :
      SequencerTick x s t .keyWait
  | keyWaitKey (key : x.keyDown) (reached : 0 ≤ tdiff s.cfg s.nextMs s.deadline)
      (after : SequencerIs t .keyed ((s.nextMs + 600000) % 2 ^ s.cfg.w) s.mute true
        (tselKey s.cfg (asserted x.pttN) (asserted x.tuneN))) :
      SequencerTick x s t .keyWait
  | keyedUnkey (released : x.released)
      (after : SequencerIs t .unmuteWait ((s.nextMs + 250) % 2 ^ s.cfg.w) s.mute false false) :
      SequencerTick x s t .keyed
  | keyedHold (key : x.keyDown) (early : tdiff s.cfg s.nextMs s.deadline < 0) (same : SameSequencer s t) :
      SequencerTick x s t .keyed
  | keyedTimeout (key : x.keyDown) (reached : 0 ≤ tdiff s.cfg s.nextMs s.deadline)
      (after : SequencerIs t .timedOut s.deadline false false false) : SequencerTick x s t .keyed
  | unmuteHold (early : tdiff s.cfg s.nextMs s.deadline < 0) (same : SameSequencer s t) :
      SequencerTick x s t .unmuteWait
  | unmuteDone (reached : 0 ≤ tdiff s.cfg s.nextMs s.deadline)
      (after : SequencerIs t .idle s.deadline false s.pttOut s.tuneOut) : SequencerTick x s t .unmuteWait
  | timedOutExit (released : x.released) (after : SequencerIs t .idle s.deadline s.mute s.pttOut s.tuneOut) :
      SequencerTick x s t .timedOut
  | timedOutHold (key : x.keyDown) (same : SameSequencer s t) : SequencerTick x s t .timedOut

/-- The sequencer's step, from any state that has the registers of `s` at the time of the next `MSINC`. -/
theorem seqStep_sequencerTick (x : Pins) {s u : State} (hcfg : u.cfg = s.cfg) (hnow : u.ms = s.nextMs)
    (hsame : SameSequencer s u) :
    SequencerTick x s (seqStep (asserted x.pttN) (asserted x.tuneN) u) s.seq := by
  obtain ⟨hseq, hdeadline, hmute, hptt, htune⟩ := hsame
  have harm : ∀ k, tadd u.cfg u.ms k = (s.nextMs + k) % 2 ^ s.cfg.w := by
    intro k
    rw [hcfg, hnow, tadd_eq_mod]
  have hrows := seqStep_rows (asserted x.pttN) (asserted x.tuneN) u
  rw [← Pins.keyDown_iff, ← Pins.released_iff, expired_iff, expired_eq_false_iff, hcfg, hnow, hdeadline, hseq] at hrows
  rcases hrows with ⟨hq, key, heq⟩ | ⟨hq, released, heq⟩ | ⟨hq, key, reached, heq⟩ | ⟨hq, released, heq⟩ |
    ⟨hq, key, reached, heq⟩ | ⟨hq, reached, heq⟩ | ⟨hq, released, heq⟩ | ⟨heq, hold⟩ <;> rw [heq]
  · exact hq ▸ .idleKey key ⟨rfl, harm 250, rfl, hptt, htune⟩
  · exact hq ▸ .keyWaitAbort released ⟨rfl, hdeadline, rfl, hptt, htune⟩
  · exact hq ▸ .keyWaitKey key reached ⟨rfl, harm 600000, hmute, rfl, rfl⟩
  · exact hq ▸ .keyedUnkey released ⟨rfl, harm 250, hmute, rfl, rfl⟩
  · exact hq ▸ .keyedTimeout key reached ⟨rfl, hdeadline, rfl, rfl, rfl⟩
  · exact hq ▸ .unmuteDone reached ⟨rfl, hdeadline, rfl, hptt, htune⟩
  · exact hq ▸ .timedOutExit released ⟨rfl, hdeadline, hmute, hptt, htune⟩
  · have same : SameSequencer s u := ⟨hseq, hdeadline, hmute, hptt, htune⟩
    rcases hold with ⟨hq, released⟩ | ⟨hq, key, early⟩ | ⟨hq, key, early⟩ | ⟨hq, early⟩ | ⟨hq, key⟩
    · exact hq ▸ .idleHold released same
    · exact hq ▸ .keyWaitHold key early same
    · exact hq ▸ .keyedHold key early same
    · exact hq ▸ .unmuteHold early same
    · exact hq ▸ .timedOutHold key same

/-- The `MSINC` with the pins `x`. -/
def msincPins (x : Pins) (s : State) : State := msinc x.pttN x.tuneN x.knobN s

theorem exec_pins (x : Pins) (s : State) : exec x.instr s = .next (msincPins x s) := rfl

theorem msincPins_eq_of_exec {x : Pins} {s t : State} (h : exec x.instr s = .next t) : msincPins x s = t := by
  injection h

/-- Between ticks an `MSINC` counts the clock and the divider (R105). -/
theorem msincPins_of_not_due (x : Pins) {s : State} (hdue : s.tdiv ≠ 9) :
    msincPins x s = (advanceMs s).setTdiv (s.tdiv + 1) := by
  rcases msinc_cases x.pttN x.tuneN x.knobN s with ⟨h, -⟩ | ⟨-, heq⟩
  · exact absurd (by simpa [tickDue, tickMs] using h) hdue
  · exact heq

theorem samplerStep_sameSequencer (p t k : Bool) (s : State) : SameSequencer s (samplerStep p t k s) :=
  ⟨samplerStep_seq .., samplerStep_deadline .., samplerStep_mute .., samplerStep_pttOut .., samplerStep_tuneOut ..⟩

/-- An `MSINC` that finds the divider at 9 is a tick of the sequencer, whatever the sampler does and whatever stimulus
is still to come. -/
theorem msincPins_setStim_sequencerTick (x : Pins) (ws : List StimWord) {s : State} (hdue : s.tdiv = 9) :
    SequencerTick x s (msincPins x (s.setStim ws)) s.seq := by
  have hnow : tadd s.cfg s.ms 1 = s.nextMs := tadd_eq_mod s.cfg s.ms 1
  rcases msinc_cases x.pttN x.tuneN x.knobN (s.setStim ws) with ⟨-, heq⟩ | ⟨hnot, -⟩
  · rw [msincPins, heq]
    exact seqStep_sequencerTick x (samplerStep_cfg ..) ((samplerStep_ms ..).trans hnow)
      (samplerStep_sameSequencer _ _ _ ((advanceMs (s.setStim ws)).setTdiv 0))
  · simp [tickDue, tickMs, hdue] at hnot

theorem msincPins_sequencerTick (x : Pins) {s : State} (hdue : s.tdiv = 9) :
    SequencerTick x s (msincPins x s) s.seq := msincPins_setStim_sequencerTick x s.stim hdue

/-- Between ticks an `MSINC` leaves the sequencer (R85). -/
theorem msincPins_sameSequencer (x : Pins) {s : State} (hdue : s.tdiv ≠ 9) : SameSequencer s (msincPins x s) := by
  rw [msincPins_of_not_due x hdue]
  exact ⟨rfl, rfl, rfl, rfl, rfl⟩

/-! ### The clauses -/

/-- Settles O20, by the two rows of IDLE. -/
theorem idleClause : Obligations.IdleClause := by
  intro s x hdue hs
  refine ⟨_, exec_pins x s, ?_⟩
  cases hs ▸ msincPins_sequencerTick x hdue with
  | idleHold released same => exact ⟨fun _ => same, fun key => absurd released key.not_released⟩
  | idleKey key after =>
    obtain ⟨hseq, hdeadline, hmute, hptt, htune⟩ := after
    exact ⟨fun released => absurd released key.not_released, fun _ => ⟨hseq, hmute, hdeadline, hptt, htune⟩⟩

/-- R91: "TUNE is the asserted line", in terms of the pins. -/
theorem tselKey_iff (c : Params) (x : Pins) : tselKey c (asserted x.pttN) (asserted x.tuneN) = true ↔
    x.tuneN = false ∧ (c.tuneOutWhenBoth = true ∨ x.pttN = true) := by
  cases h : c.tuneOutWhenBoth <;> simp [tselKey, asserted, h]

/-- Settles O21, by the three rows of KEY_WAIT. -/
theorem keyWaitClause : Obligations.KeyWaitClause := by
  intro s x hdue hs
  refine ⟨_, exec_pins x s, ?_⟩
  cases hs ▸ msincPins_sequencerTick x hdue with
  | keyWaitAbort released after =>
    obtain ⟨hseq, hdeadline, hmute, hptt, htune⟩ := after
    exact ⟨fun _ => ⟨hseq, hmute, hdeadline, hptt, htune⟩, fun key => absurd released key.not_released,
      fun key => absurd released key.not_released⟩
  | keyWaitHold key early same =>
    exact ⟨fun released => absurd released key.not_released, fun _ reached => absurd early reached.not_gt,
      fun _ _ => same⟩
  | keyWaitKey key reached after =>
    obtain ⟨hseq, hdeadline, hmute, hptt, htune⟩ := after
    exact ⟨fun released => absurd released key.not_released,
      fun _ _ => ⟨hseq, hmute, hptt, hdeadline, by rw [htune, tselKey_iff]⟩, fun _ early => absurd early reached.not_gt⟩

/-- Settles O22, by the three rows of KEYED. -/
theorem keyedClause : Obligations.KeyedClause := by
  intro s x hdue hs
  refine ⟨_, exec_pins x s, ?_⟩
  cases hs ▸ msincPins_sequencerTick x hdue with
  | keyedUnkey released after =>
    obtain ⟨hseq, hdeadline, hmute, hptt, htune⟩ := after
    exact ⟨fun _ => ⟨hseq, hmute, hptt, htune, hdeadline⟩, fun key => absurd released key.not_released,
      fun key => absurd released key.not_released⟩
  | keyedHold key early same =>
    exact ⟨fun released => absurd released key.not_released, fun _ reached => absurd early reached.not_gt,
      fun _ _ => same⟩
  | keyedTimeout key reached after =>
    obtain ⟨hseq, hdeadline, hmute, hptt, htune⟩ := after
    exact ⟨fun released => absurd released key.not_released, fun _ _ => ⟨hseq, hmute, hptt, htune, hdeadline⟩,
      fun _ early => absurd early reached.not_gt⟩

/-- Settles O23, by the two rows of UNMUTE_WAIT. -/
theorem unmuteWaitClause : Obligations.UnmuteWaitClause := by
  intro s x hdue hs
  refine ⟨_, exec_pins x s, ?_⟩
  cases hs ▸ msincPins_sequencerTick x hdue with
  | unmuteHold early same => exact ⟨fun reached => absurd early reached.not_gt, fun _ => same⟩
  | unmuteDone reached after =>
    obtain ⟨hseq, hdeadline, hmute, hptt, htune⟩ := after
    exact ⟨fun _ => ⟨hseq, hmute, hdeadline, hptt, htune⟩, fun early => absurd early reached.not_gt⟩

/-- The `MSINC` that contains a tick queues the tick's events. -/
theorem msincPins_pushedEvents (x : Pins) {s : State} (hdue : s.tdiv = 9) :
    PushedEvents (tickEvents s.nextMs x s) s (msincPins x s) := by
  obtain ⟨t, ht, hpushed⟩ := exec_msinc_pushedEvents x hdue
  exact msincPins_eq_of_exec ht ▸ hpushed

/-- The last event of a tick that leaves TIMED_OUT is the sequencer's (R81, R98). -/
theorem getLast?_tickEvents_of_exit {now : Time} {x : Pins} {s : State} (hs : s.seq = .timedOut) (h : x.released) :
    (tickEvents now x s).getLast? = some .txTimedOutExit := by
  have hseq : seqEvents now x.pttN x.tuneN s = [.txTimedOutExit] := by
    obtain ⟨hp, ht⟩ := h
    simp [seqEvents, hs, hp, ht]
  rw [tickEvents_eq, hseq, List.getLast?_concat]

/-- Settles O24, by the two rows of TIMED_OUT; with room for four all the events of the tick are queued. -/
theorem timedOutClause : Obligations.TimedOutClause := by
  intro s x hdue hs
  refine ⟨_, exec_pins x s, ?_⟩
  cases hs ▸ msincPins_sequencerTick x hdue with
  | timedOutExit released after =>
    obtain ⟨hseq, hdeadline, hmute, hptt, htune⟩ := after
    refine ⟨fun _ => ⟨hseq, hdeadline, ⟨hmute, hptt, htune⟩, fun hroom => ?_⟩,
      fun key => absurd released key.not_released⟩
    obtain ⟨-, hswq, -⟩ := msincPins_pushedEvents x hdue
    have hlen := tickEvents_length_le s.nextMs x s
    rw [hswq, pushEvents_of_room (by omega), State.setSw_swq, List.getLast?_append,
      getLast?_tickEvents_of_exit hs released, Option.some_or]
  | timedOutHold key same => exact ⟨fun released => absurd released key.not_released, fun _ => same⟩

/-! ### The rows as instructions -/

/-- Settles O25, row by row: arming adds the delay modulo `2^W`, and the two rows with an event write the queue as one
push does. -/
theorem sequencerTransitionRowsAct : Obligations.SequencerTransitionRowsAct := by
  intro s a b
  have harm : ∀ k, tadd s.cfg s.ms k = (s.ms + k) % 2 ^ s.cfg.w := tadd_eq_mod s.cfg s.ms
  rw [← harm, ← harm]
  exact ⟨rfl, rfl, rfl, rfl, rfl, rfl,
    ⟨_, rfl, pushedSw_pushSw .txTimedOutEntry (((s.setPttOut false).setTuneOut false).setMute false), rfl⟩,
    ⟨_, rfl, pushedSw_pushSw .txTimedOutExit s, rfl⟩⟩

/-- Settles O26, row by row. -/
theorem sequencerHoldRowsWriteNothing : Obligations.SequencerHoldRowsWriteNothing :=
  fun _ _ _ => ⟨rfl, rfl, rfl, rfl, rfl⟩

/-! ### Single steps -/

theorem qsample_sameSequencer (a b : Bool) (s : State) : SameSequencer s (qsample a b s) :=
  ⟨qsample_seq .., qsample_deadline .., qsample_mute .., qsample_pttOut .., qsample_tuneOut ..⟩

/-- Everything a step can do to the sequencer: nothing, the reset, or a tick. -/
theorem step_sequencer_cases {s t : State} (h : step s = .next t) :
    SameSequencer s t ∨ (∃ rest, s.stim = wordReset :: rest ∧ SequencerIs t .idle 0 false false false) ∨
    (∃ (x : Pins) (rest : List StimWord), s.stim = x.word :: rest ∧ s.tdiv = 9 ∧ SequencerTick x s t s.seq) := by
  have same : SameSequencer s s := ⟨rfl, rfl, rfl, rfl, rfl⟩
  rcases step_next_cases h with ⟨-, rfl⟩ | ⟨S, rest, hS, hop⟩
  · exact .inl same
  · rcases hop with ⟨-, rfl⟩ | ⟨p, t, k, rfl, rfl⟩ | ⟨a, b, -, rfl⟩ | ⟨-, rfl⟩ | ⟨-, rfl⟩ | ⟨rfl, rfl⟩
    · exact .inl same
    · let x : Pins := ⟨p, t, k⟩
      by_cases hdue : s.tdiv = 9
      · exact .inr (.inr ⟨x, rest, hS, hdue, msincPins_setStim_sequencerTick x rest hdue⟩)
      · exact .inl (msincPins_sameSequencer x (s := s.setStim rest) hdue)
    · exact .inl (qsample_sameSequencer a b (s.setStim rest))
    · exact .inl same
    · exact .inl same
    · exact .inr (.inl ⟨rest, hS, rfl, rfl, rfl, rfl, rfl⟩)

/-- Settles O48: a step that changes `SEQ` is no hold, so it is the reset or one of the seven arcs. -/
theorem sequencerTakesOnlyListedArcs : Obligations.SequencerTakesOnlyListedArcs := by
  intro s t hstep hne
  rcases step_sequencer_cases hstep with ⟨hseq, -⟩ | ⟨rest, hS, hseq, -⟩ | ⟨x, rest, hS, hdue, htick⟩
  · exact absurd hseq hne
  · exact .inl ⟨rest, hS, hseq⟩
  · refine .inr ⟨x, rest, hS, hdue, ?_⟩
    generalize hq : s.seq = q at htick
    cases htick with
    | idleHold _ same | keyWaitHold _ _ same | keyedHold _ _ same | unmuteHold _ same | timedOutHold _ same =>
      exact absurd same.1 hne
    | idleKey key after => exact .inl ⟨rfl, after.1, key⟩
    | keyWaitAbort released after => exact .inr (.inl ⟨rfl, after.1, released⟩)
    | keyWaitKey key reached after => exact .inr (.inr (.inl ⟨rfl, after.1, key, reached⟩))
    | keyedUnkey released after => exact .inr (.inr (.inr (.inl ⟨rfl, after.1, released⟩)))
    | keyedTimeout key reached after => exact .inr (.inr (.inr (.inr (.inl ⟨rfl, after.1, key, reached⟩))))
    | unmuteDone reached after => exact .inr (.inr (.inr (.inr (.inr (.inl ⟨rfl, after.1, reached⟩)))))
    | timedOutExit released after => exact .inr (.inr (.inr (.inr (.inr (.inr ⟨rfl, after.1, released⟩)))))

/-- Settles O49: a step that is neither leaves all of the sequencer. -/
theorem outputsChangeOnlyAtTickOrReset : Obligations.OutputsChangeOnlyAtTickOrReset := by
  intro s t hstep hne
  rcases step_sequencer_cases hstep with ⟨-, -, same⟩ | ⟨rest, hS, -⟩ | ⟨x, rest, hS, hdue, -⟩
  · exact absurd same hne
  · exact .inl ⟨rest, hS⟩
  · exact .inr ⟨x, rest, hS, hdue⟩

/-- Settles O50: of all the rows only KEY_WAIT's at its deadline sets `PTT_OUT`, the others keep or clear it. -/
theorem pttOutRisesOnlyAtExpiredKeyWait : Obligations.PttOutRisesOnlyAtExpiredKeyWait := by
  intro s t hstep hlow hhigh
  have kept : t.pttOut ≠ s.pttOut := by simp [hlow, hhigh]
  have cleared : t.pttOut ≠ false := by simp [hhigh]
  rcases step_sequencer_cases hstep with ⟨-, -, -, hptt, -⟩ | ⟨-, -, -, -, -, hptt, -⟩ | ⟨x, rest, hS, hdue, htick⟩
  · exact absurd hptt kept
  · exact absurd hptt cleared
  · generalize hq : s.seq = q at htick
    cases htick with
    | keyWaitKey key reached after => exact ⟨rfl, after.1, x, rest, hS, hdue, key, reached⟩
    | idleHold _ same | keyWaitHold _ _ same | keyedHold _ _ same | unmuteHold _ same | timedOutHold _ same =>
      obtain ⟨-, -, -, hptt, -⟩ := same
      exact absurd hptt kept
    | idleKey _ after | keyWaitAbort _ after | unmuteDone _ after | timedOutExit _ after =>
      obtain ⟨-, -, -, hptt, -⟩ := after
      exact absurd hptt kept
    | keyedUnkey _ after | keyedTimeout _ _ after =>
      obtain ⟨-, -, -, hptt, -⟩ := after
      exact absurd hptt cleared

/-- Settles O51: of KEYED's rows only the hold stays in KEYED. -/
theorem tuneOutLatchedWhileKeyed : Obligations.TuneOutLatchedWhileKeyed := by
  intro s t hstep hs ht
  rcases step_sequencer_cases hstep with ⟨-, hdeadline, hmute, hptt, htune⟩ | ⟨-, -, hseq, -⟩ | ⟨x, -, -, -, htick⟩
  · exact ⟨htune, hdeadline, hptt, hmute⟩
  · simp [ht] at hseq
  · cases hs ▸ htick with
    | keyedHold _ _ same =>
      obtain ⟨-, hdeadline, hmute, hptt, htune⟩ := same
      exact ⟨htune, hdeadline, hptt, hmute⟩
    | keyedUnkey _ after | keyedTimeout _ _ after =>
      obtain ⟨hseq, -⟩ := after
      simp [ht] at hseq

end Sys2Proof.Machine
end

section
/-! PROOFS. The sequencer family, second part: nothing but its own registers, the clock and the stimulus decides what
the sequencer does; and over runs of milliseconds its three deadlines are met to the count, across any wrap of `MS`. -/
namespace Sys2Proof.Machine

/-! ### What the sequencer sees of a state -/

/-- The reset state with the parameters, the clock, the divider and the sequencer's registers of `s`: all the sequencer
sees of `s`. -/
def State.sequencerView (s : State) : State :=
  { State.resetWith s.cfg with
    ms := s.ms, tdiv := s.tdiv, seq := s.seq, deadline := s.deadline, mute := s.mute, pttOut := s.pttOut,
    tuneOut := s.tuneOut }

theorem sequencerView_eq_iff {s t : State} :
    t.sequencerView = s.sequencerView ↔ t.cfg = s.cfg ∧ SameTime s t ∧ SameSequencer s t := by
  simp [State.sequencerView, State.resetWith, and_assoc]

/-- The sequencer's step looks at its view of the state alone. -/
theorem seqStep_sequencerView (p t : Bool) (s : State) :
    (seqStep p t s.sequencerView).sequencerView = (seqStep p t s).sequencerView := by
  unfold seqStep
  rw [show s.sequencerView.seq = s.seq from rfl, show s.sequencerView.cfg = s.cfg from rfl,
    show expired s.sequencerView = expired s from rfl]
  cases s.seq with
  | idle => cases anyKey p t <;> rfl
  | keyWait => cases anyKey p t <;> cases expired s <;> cases tselKey s.cfg p t <;> rfl
  | keyed => cases anyKey p t <;> cases expired s <;> rfl
  | unmuteWait => cases expired s <;> rfl
  | timedOut => cases anyKey p t <;> rfl

theorem samplerStep_sequencerView (p t k : Bool) (s : State) :
    (samplerStep p t k s).sequencerView = s.sequencerView :=
  sequencerView_eq_iff.mpr
    ⟨samplerStep_cfg .., ⟨samplerStep_ms .., samplerStep_tdiv ..⟩, samplerStep_sameSequencer p t k s⟩

theorem qsample_sequencerView (a b : Bool) (s : State) : (qsample a b s).sequencerView = s.sequencerView :=
  sequencerView_eq_iff.mpr ⟨qsample_cfg .., ⟨qsample_ms .., qsample_tdiv ..⟩, qsample_sameSequencer a b s⟩

/-- To the sequencer a tick is its step on the sampled levels. -/
theorem tick_sequencerView (x y z : Bool) (s : State) :
    (tick x y z s).sequencerView = (seqStep (asserted x) (asserted y) s.sequencerView).sequencerView := by
  rw [← samplerStep_sequencerView (asserted x) (asserted y) (asserted z) s, seqStep_sequencerView]
  rfl

theorem msinc_sequencerView (x y z : Bool) (s : State) :
    (msinc x y z s.sequencerView).sequencerView = (msinc x y z s).sequencerView := by
  unfold msinc
  rw [show tickDue s.sequencerView = tickDue s from rfl]
  cases tickDue s with
  | false => rfl
  | true =>
    rw [if_pos rfl, if_pos rfl, tick_sequencerView, tick_sequencerView]
    rfl

/-- Each operation of the stimulus shows the sequencer what it would show it from its view of the state alone. -/
theorem exec_sequencerView {S : StimWord} {i : Instr} {s t : State} (hd : decodeOp S = .ok i)
    (ht : exec i s = .next t) : ∃ u, exec i s.sequencerView = .next u ∧ u.sequencerView = t.sequencerView := by
  rcases decodeOp_cases hd with ⟨-, rfl⟩ | ⟨x, y, z, -, rfl⟩ | ⟨a, b, -, rfl⟩ | ⟨-, rfl⟩ | ⟨-, rfl⟩ | ⟨-, rfl⟩ <;>
    injection ht with ht <;> subst ht <;> refine ⟨_, rfl, ?_⟩
  · rfl
  · exact msinc_sequencerView x y z s
  · rw [qsample_sequencerView, qsample_sequencerView]
    rfl
  · rfl
  · rfl
  · rfl

/-- Settles O46: both states run the same word, and from one view of the sequencer it leads to one view. -/
theorem sequencerIgnoresEverythingElse : Obligations.SequencerIgnoresEverythingElse := by
  rintro s s' t t' ⟨hcfg, hstim⟩ htime hseq ht ht'
  have hview : s'.sequencerView = s.sequencerView := sequencerView_eq_iff.mpr ⟨hcfg, htime, hseq⟩
  suffices h : t'.sequencerView = t.sequencerView from (sequencerView_eq_iff.mp h).2
  cases hs : s.stim with
  | nil =>
    rw [step_of_nil hs] at ht
    rw [step_of_nil (hstim.trans hs)] at ht'
    injection ht with ht
    injection ht' with ht'
    exact ht ▸ ht' ▸ hview
  | cons S rest =>
    cases hd : decodeOp S with
    | error e => rw [step_of_error hs hd] at ht; cases ht
    | ok i =>
      rw [step_of_ok hs hd] at ht
      rw [step_of_ok (hstim.trans hs) hd] at ht'
      obtain ⟨u, hu, htu⟩ := exec_sequencerView hd ht
      obtain ⟨u', hu', htu'⟩ := exec_sequencerView hd ht'
      have hrest : (s'.setStim rest).sequencerView = (s.setStim rest).sequencerView := hview
      rw [hrest, hu] at hu'
      injection hu' with hu'
      rw [← htu, ← htu', hu']

/-! ### Runs of milliseconds -/

/-- The state a run of `MSINC`s with these pins leads to. -/
def milliseconds (xs : List Pins) (s : State) : State := xs.foldl (fun u x => msincPins x u) s

@[simp] theorem milliseconds_nil (s : State) : milliseconds [] s = s := rfl

@[simp] theorem milliseconds_cons (x : Pins) (xs : List Pins) (s : State) :
    milliseconds (x :: xs) s = milliseconds xs (msincPins x s) := rfl

theorem milliseconds_append (xs ys : List Pins) (s : State) :
    milliseconds (xs ++ ys) s = milliseconds ys (milliseconds xs s) := List.foldl_append

theorem milliseconds_concat (xs : List Pins) (x : Pins) (s : State) :
    milliseconds (xs ++ [x]) s = msincPins x (milliseconds xs s) := milliseconds_append xs [x] s

theorem runWords_pins (xs : List Pins) (s : State) :
    runWords (xs.map Pins.word) s = .next (milliseconds xs s) := by
  induction xs generalizing s with
  | nil => exact runWords_nil s
  | cons x xs ih => rw [List.map_cons, Pins.word, runWords_msinc, milliseconds_cons, ← ih, msincPins]

@[simp] theorem milliseconds_cfg (xs : List Pins) (s : State) : (milliseconds xs s).cfg = s.cfg := by
  induction xs generalizing s with
  | nil => rfl
  | cons x xs ih => rw [milliseconds_cons, ih, msincPins, msinc_cfg]

/-- The time of the next `MSINC` after a run, across any wrap. -/
theorem milliseconds_nextMs (xs : List Pins) (s : State) :
    (milliseconds xs s).nextMs = tadd s.cfg s.ms (xs.length + 1) := by
  induction xs generalizing s with
  | nil => exact (tadd_eq_mod s.cfg s.ms 1).symm
  | cons x xs ih =>
    rw [milliseconds_cons, ih, msincPins, msinc_cfg, msinc_ms, tadd_tadd, List.length_cons, Nat.add_comm 1]

/-- Just after a tick the divider counts the milliseconds modulo 10. -/
theorem milliseconds_tdiv {s : State} (h : s.tdiv = 0) (xs : List Pins) :
    (milliseconds xs s).tdiv.toNat = xs.length % 10 := by
  induction xs using List.reverseRecOn with
  | nil => simp [h]
  | append_singleton xs x ih =>
    rw [milliseconds_concat, msincPins, msinc_tdiv (by omega), ih, List.length_append, List.length_singleton]
    omega

/-! ### A deadline not reached, and reached -/

theorem sameSequencer_trans {s t u : State} (h : SameSequencer s t) (h' : SameSequencer t u) : SameSequencer s u := by
  obtain ⟨hseq, hdeadline, hmute, hptt, htune⟩ := h
  obtain ⟨hseq', hdeadline', hmute', hptt', htune'⟩ := h'
  exact ⟨hseq'.trans hseq, hdeadline'.trans hdeadline, hmute'.trans hmute, hptt'.trans hptt, htune'.trans htune⟩

/-- In `q` a tick with the pins `x` waits for the deadline: UNMUTE_WAIT whatever the keys do, KEY_WAIT and KEYED with a
key held. -/
def Awaits (x : Pins) (q : SeqState) : Prop := q = .unmuteWait ∨ (x.keyDown ∧ (q = .keyWait ∨ q = .keyed))

/-- Before its deadline a state that waits for it is held (R92, R95, R97). -/
theorem SequencerTick.held {x : Pins} {s t : State} {q : SeqState} (h : SequencerTick x s t q) (hq : Awaits x q)
    (early : tdiff s.cfg s.nextMs s.deadline < 0) : SameSequencer s t := by
  cases h with
  | keyWaitHold _ _ same | keyedHold _ _ same | unmuteHold _ same => exact same
  | keyWaitKey _ reached | keyedTimeout _ reached | unmuteDone reached => exact absurd early reached.not_gt
  | keyWaitAbort released | keyedUnkey released =>
    obtain h | ⟨key, -⟩ := hq
    · cases h
    · exact absurd released key.not_released
  | idleHold | idleKey | timedOutExit | timedOutHold => simp [Awaits] at hq

section
variable {s : State} {xs : List Pins} {delay : Nat}

/-- The distance from the deadline, armed `delay` counts ahead, at the next `MSINC` after a run. -/
theorem tdiff_milliseconds (hok : s.cfg.Ok) (hdelay : delay ≤ 600000) (hlen : xs.length < delay)
    (harmed : s.deadline = (s.ms + delay) % 2 ^ s.cfg.w) :
    tdiff s.cfg (milliseconds xs s).nextMs s.deadline = (xs.length : Int) + 1 - delay := by
  obtain ⟨hw, -⟩ := hok
  have hhalf : 2 ^ 20 ≤ 2 ^ (s.cfg.w - 1) := Nat.pow_le_pow_right (by omega) (by omega)
  rw [milliseconds_nextMs, harmed, ← tadd_eq_mod, tdiff_tadd_tadd (by omega) (by omega) (by omega)]
  omega

/-- While the deadline is ahead, no tick of the run writes the sequencer's registers. -/
theorem milliseconds_held (hok : s.cfg.Ok) (hdelay : delay ≤ 600000)
    (harmed : s.deadline = (s.ms + delay) % 2 ^ s.cfg.w) (hwait : ∀ x ∈ xs, Awaits x s.seq) (hlen : xs.length < delay) :
    SameSequencer s (milliseconds xs s) := by
  induction xs using List.reverseRecOn with
  | nil => exact ⟨rfl, rfl, rfl, rfl, rfl⟩
  | append_singleton xs x ih =>
    rw [List.length_append, List.length_singleton] at hlen
    have same := ih (fun y hy => hwait y (List.mem_append_left _ hy)) (by omega)
    rw [milliseconds_concat]
    refine sameSequencer_trans same ?_
    by_cases hdue : (milliseconds xs s).tdiv = 9
    · obtain ⟨hseq, hdeadline, -⟩ := same
      refine (msincPins_sequencerTick x hdue).held ?_ ?_
      · rw [hseq]
        exact hwait x (by simp)
      · rw [milliseconds_cfg, hdeadline, tdiff_milliseconds hok hdelay (by omega) harmed]
        omega
    · exact msincPins_sameSequencer x hdue

/-- A run as long as the delay ends in a tick, the delay being a multiple of ten counts: the state before that tick has
the sequencer's registers of the start, and its deadline is reached at the tick. -/
theorem last_millisecond_reaches_deadline (hok : s.cfg.Ok) (hdelay : delay ≤ 600000) (hten : delay % 10 = 0)
    (hpos : 0 < delay) (htdiv : s.tdiv = 0) (harmed : s.deadline = (s.ms + delay) % 2 ^ s.cfg.w)
    (hwait : ∀ x ∈ xs, Awaits x s.seq) (hlen : xs.length = delay) :
    ∃ u, ∃ x ∈ xs, milliseconds xs s = msincPins x u ∧ SameSequencer s u ∧ u.tdiv = 9 ∧
      0 ≤ tdiff u.cfg u.nextMs u.deadline := by
  obtain rfl | ⟨ys, y, rfl⟩ := xs.eq_nil_or_concat'
  · simp at hlen
    omega
  · rw [List.length_append, List.length_singleton] at hlen
    have same := milliseconds_held hok hdelay harmed (fun x hx => hwait x (List.mem_append_left _ hx)) (by omega)
    refine ⟨milliseconds ys s, y, by simp, milliseconds_concat .., same, ?_, ?_⟩
    · have hdiv := milliseconds_tdiv htdiv ys
      bv_omega
    · obtain ⟨-, hdeadline, -⟩ := same
      rw [milliseconds_cfg, hdeadline, tdiff_milliseconds hok hdelay (by omega) harmed]
      omega

end

/-- Settles O52: the tick that ends the delay is KEY_WAIT's with a key at its deadline. -/
theorem keyDelayIsExact : Obligations.KeyDelayIsExact := by
  intro s xs hok hs htdiv harmed hkeys
  have hwait : ∀ x ∈ xs, Awaits x s.seq := fun x hx => .inr ⟨hkeys x hx, .inl hs⟩
  refine ⟨fun hlen => ⟨_, runWords_pins xs s, milliseconds_held hok (by omega) harmed hwait hlen⟩,
    fun hlen => ⟨_, runWords_pins xs s, ?_⟩⟩
  obtain ⟨u, x, hx, hend, ⟨hseq, -, hmute, -⟩, hdue, reached⟩ :=
    last_millisecond_reaches_deadline hok (by omega) (by omega) (by omega) htdiv harmed hwait hlen
  obtain ⟨t, ht, -, hkey, -⟩ := keyWaitClause u x hdue (hseq.trans hs)
  obtain ⟨htseq, htmute, htptt, -⟩ := hkey (hkeys x hx) reached
  obtain rfl := msincPins_eq_of_exec ht
  rw [hend]
  exact ⟨htseq, htptt, htmute.trans hmute⟩

/-- Settles O54: the tick that ends the delay is UNMUTE_WAIT's at its deadline, whatever the keys do. -/
theorem unmuteDelayIsExact : Obligations.UnmuteDelayIsExact := by
  intro s xs hok hs htdiv harmed
  have hwait : ∀ x ∈ xs, Awaits x s.seq := fun _ _ => .inl hs
  refine ⟨fun hlen => ⟨_, runWords_pins xs s, milliseconds_held hok (by omega) harmed hwait hlen⟩,
    fun hlen => ⟨_, runWords_pins xs s, ?_⟩⟩
  obtain ⟨u, x, -, hend, ⟨hseq, -, -, hptt, htune⟩, hdue, reached⟩ :=
    last_millisecond_reaches_deadline hok (by omega) (by omega) (by omega) htdiv harmed hwait hlen
  obtain ⟨t, ht, hdone, -⟩ := unmuteWaitClause u x hdue (hseq.trans hs)
  obtain ⟨htseq, htmute, -, htptt, httune⟩ := hdone reached
  obtain rfl := msincPins_eq_of_exec ht
  rw [hend]
  exact ⟨htseq, htmute, htptt.trans hptt, httune.trans htune⟩

/-! ### The stuck key -/

/-- With a key held TIMED_OUT is kept for good (R99). -/
theorem milliseconds_timedOut {s : State} {xs : List Pins} (hs : s.seq = .timedOut) (hkeys : ∀ x ∈ xs, x.keyDown) :
    SameSequencer s (milliseconds xs s) := by
  induction xs generalizing s with
  | nil => exact ⟨rfl, rfl, rfl, rfl, rfl⟩
  | cons x xs ih =>
    obtain ⟨key, hkeys⟩ := List.forall_mem_cons.mp hkeys
    have same : SameSequencer s (msincPins x s) := by
      by_cases hdue : s.tdiv = 9
      · cases hs ▸ msincPins_sequencerTick x hdue with
        | timedOutExit released => exact absurd released key.not_released
        | timedOutHold _ same => exact same
      · exact msincPins_sameSequencer x hdue
    exact sameSequencer_trans same (ih (same.1.trans hs) hkeys)

/-- The events of an `MSINC`: those of its tick, if it contains one. -/
def msincEvents (x : Pins) (s : State) : List SwEvent := if s.tdiv = 9 then tickEvents s.nextMs x s else []

theorem msincEvents_of_due (x : Pins) {s : State} (hdue : s.tdiv = 9) : msincEvents x s = tickEvents s.nextMs x s :=
  if_pos hdue

theorem msincEvents_of_not_due (x : Pins) {s : State} (hdue : s.tdiv ≠ 9) : msincEvents x s = [] := if_neg hdue

/-- The events of a run of milliseconds, one `MSINC` after the other. -/
def runEvents : List Pins → State → List SwEvent
  | [], _ => []
  | x :: xs, s => msincEvents x s ++ runEvents xs (msincPins x s)

theorem pushedEvents_msincPins (x : Pins) (s : State) : PushedEvents (msincEvents x s) s (msincPins x s) := by
  by_cases hdue : s.tdiv = 9
  · rw [msincEvents_of_due x hdue]
    exact msincPins_pushedEvents x hdue
  · rw [msincEvents_of_not_due x hdue]
    rw [msincPins_of_not_due x hdue]
    exact ⟨rfl, rfl, rfl⟩

theorem pushedEvents_milliseconds (xs : List Pins) (s : State) :
    PushedEvents (runEvents xs s) s (milliseconds xs s) := by
  induction xs generalizing s with
  | nil => exact ⟨rfl, rfl, rfl⟩
  | cons x xs ih => exact (pushedEvents_msincPins x s).trans (ih _)

/-- A run has at most four events a tick. -/
theorem runEvents_length_le (xs : List Pins) {s : State} (hdiv : s.tdiv.toNat ≤ 9) :
    (runEvents xs s).length ≤ 4 * ((s.tdiv.toNat + xs.length) / 10) := by
  induction xs generalizing s with
  | nil => simp [runEvents]
  | cons x xs ih =>
    have hnext : (msincPins x s).tdiv.toNat = (s.tdiv.toNat + 1) % 10 := msinc_tdiv hdiv ..
    have hrest := ih (s := msincPins x s) (by omega)
    rw [runEvents, List.length_append, List.length_cons]
    by_cases hdue : s.tdiv = 9
    · have htick := tickEvents_length_le s.nextMs x s
      have hnine : s.tdiv.toNat = 9 := by rw [hdue]; rfl
      rw [msincEvents_of_due x hdue]
      omega
    · have hnine : s.tdiv.toNat ≠ 9 := by bv_omega
      rw [msincEvents_of_not_due x hdue, List.length_nil]
      omega

/-- Only the sequencer contributes the time-out event. -/
theorem count_entry_tickEvents (now : Time) (x : Pins) (s : State) :
    (tickEvents now x s).count .txTimedOutEntry = (seqEvents now x.pttN x.tuneN s).count .txTimedOutEntry := by
  have hTune : (tuneEvents x.tuneN s).count .txTimedOutEntry = 0 := by
    unfold tuneEvents
    cases x.tuneN <;> split <;> rfl
  have hPtt : (pttEvents x.pttN s).count .txTimedOutEntry = 0 := by
    unfold pttEvents
    cases x.pttN <;> split <;> rfl
  have hKnob : (knobEvents now x.knobN s).count .txTimedOutEntry = 0 := by
    unfold knobEvents
    (repeat' split) <;> rfl
  simp [tickEvents_eq, hTune, hPtt, hKnob]

/-- 1 in TIMED_OUT, else 0: how often a stuck key has timed out. -/
def timeouts (s : State) : Nat := if s.seq = .timedOut then 1 else 0

theorem timeouts_of_timedOut {s : State} (h : s.seq = .timedOut) : timeouts s = 1 := if_pos h

theorem timeouts_of_keyed {s : State} (h : s.seq = .keyed) : timeouts s = 0 := by simp [timeouts, h]

/-- With a key held an `MSINC` keeps KEYED and TIMED_OUT or takes the one arc between them, and its time-out events are
the times it takes that arc (R94, R95, R99). -/
theorem msincPins_timeouts {x : Pins} {s : State} (key : x.keyDown) (hs : s.seq = .keyed ∨ s.seq = .timedOut) :
    ((msincPins x s).seq = .keyed ∨ (msincPins x s).seq = .timedOut) ∧
      timeouts s + (msincEvents x s).count .txTimedOutEntry = timeouts (msincPins x s) := by
  by_cases hdue : s.tdiv = 9
  · have htick := msincPins_sequencerTick x hdue
    rw [msincEvents_of_due x hdue, count_entry_tickEvents]
    rcases hs with hs | hs
    · cases hs ▸ htick with
      | keyedUnkey released => exact absurd released key.not_released
      | keyedHold _ early same =>
        have hnext := same.1.trans hs
        refine ⟨.inl hnext, ?_⟩
        rw [timeouts_of_keyed hs, timeouts_of_keyed hnext]
        simp [seqEvents, hs, early.not_ge]
      | keyedTimeout _ reached after =>
        refine ⟨.inr after.1, ?_⟩
        rw [timeouts_of_keyed hs, timeouts_of_timedOut after.1, seqEvents, if_pos ⟨hs, key, reached⟩]
        rfl
    · cases hs ▸ htick with
      | timedOutExit released => exact absurd released key.not_released
      | timedOutHold _ same =>
        have hnext := same.1.trans hs
        refine ⟨.inr hnext, ?_⟩
        rw [timeouts_of_timedOut hs, timeouts_of_timedOut hnext, seqEvents, if_neg (by simp [hs]),
          if_neg fun h => key.not_released h.2]
        rfl
  · obtain ⟨hseq, -⟩ := msincPins_sameSequencer x hdue
    rw [msincEvents_of_not_due x hdue, hseq]
    exact ⟨hs, by simp [timeouts, hseq]⟩

/-- Over a run with a key held the time-out events are the times the arc to TIMED_OUT is taken. -/
theorem milliseconds_timeouts {xs : List Pins} {s : State} (hkeys : ∀ x ∈ xs, x.keyDown)
    (hs : s.seq = .keyed ∨ s.seq = .timedOut) :
    timeouts s + (runEvents xs s).count .txTimedOutEntry = timeouts (milliseconds xs s) := by
  induction xs generalizing s with
  | nil => rfl
  | cons x xs ih =>
    obtain ⟨key, hkeys⟩ := List.forall_mem_cons.mp hkeys
    obtain ⟨hnext, hcount⟩ := msincPins_timeouts key hs
    rw [runEvents, List.count_append, ← Nat.add_assoc, hcount, ih hkeys hnext, milliseconds_cons]

/-- From its entry tick KEYED, with a key held, ends in TIMED_OUT with all outputs low after 600000 counts or more
(R94, R99). -/
theorem milliseconds_stuckKey {s : State} {xs : List Pins} (hok : s.cfg.Ok) (hs : s.seq = .keyed) (htdiv : s.tdiv = 0)
    (harmed : s.deadline = (s.ms + 600000) % 2 ^ s.cfg.w) (hkeys : ∀ x ∈ xs, x.keyDown) (hlen : 600000 ≤ xs.length) :
    (milliseconds xs s).seq = .timedOut ∧ (milliseconds xs s).mute = false ∧ (milliseconds xs s).pttOut = false ∧
      (milliseconds xs s).tuneOut = false := by
  obtain ⟨ys, zs, rfl, hys⟩ : ∃ ys zs, xs = ys ++ zs ∧ ys.length = 600000 :=
    ⟨xs.take 600000, xs.drop 600000, (List.take_append_drop ..).symm, List.length_take_of_le hlen⟩
  have hkeysys : ∀ x ∈ ys, x.keyDown := fun x hx => hkeys x (List.mem_append_left _ hx)
  obtain ⟨u, x, hx, hend, ⟨hseq, -⟩, hdue, reached⟩ :=
    last_millisecond_reaches_deadline hok le_rfl (by omega) (by omega) htdiv harmed
      (fun x hx => .inr ⟨hkeysys x hx, .inr hs⟩) hys
  obtain ⟨t, ht, -, htimeout, -⟩ := keyedClause u x hdue (hseq.trans hs)
  obtain ⟨htseq, htmute, htptt, httune, -⟩ := htimeout (hkeysys x hx) reached
  obtain rfl := msincPins_eq_of_exec ht
  obtain ⟨hseq', -, hmute', hptt', htune'⟩ := milliseconds_timedOut (xs := zs) htseq
    fun y hy => hkeys y (List.mem_append_right _ hy)
  rw [milliseconds_append, hend]
  exact ⟨hseq'.trans htseq, hmute'.trans htmute, hptt'.trans htptt, htune'.trans httune⟩

/-- Settles O53: the key held keeps KEYED until its deadline and TIMED_OUT from then on; the one arc between them pushes
the one time-out event, and with room for four events a tick all the events of the run are queued. -/
theorem stuckKeyTimesOutOnce : Obligations.StuckKeyTimesOutOnce := by
  intro s xs hok hs htdiv harmed hkeys
  refine ⟨fun hlen => ⟨_, runWords_pins xs s,
    milliseconds_held hok le_rfl harmed (fun x hx => .inr ⟨hkeys x hx, .inr hs⟩) hlen⟩, fun hlen => ?_⟩
  obtain ⟨hseq, hmute, hptt, htune⟩ := milliseconds_stuckKey hok hs htdiv harmed hkeys hlen
  refine ⟨_, runWords_pins xs s, hseq, hmute, hptt, htune, fun hroom => ⟨runEvents xs s, ?_, ?_⟩⟩
  · have hzero : s.tdiv.toNat = 0 := by rw [htdiv]; rfl
    have hevents := runEvents_length_le xs (s := s) (by omega)
    obtain ⟨-, hswq, -⟩ := pushedEvents_milliseconds xs s
    rw [hzero, Nat.zero_add] at hevents
    rw [hswq, pushEvents_of_room (by omega), State.setSw_swq]
  · have hcount := milliseconds_timeouts hkeys (.inl hs)
    rw [timeouts_of_keyed hs, timeouts_of_timedOut hseq] at hcount
    omega

end Sys2Proof.Machine
end

section
/-! PROOFS. The timebase family (43_timebase.md): the signed distance and the deadline across wraps of `MS`, the sum
modulo `2^W`, and what one `MSINC` counts. -/
namespace Sys2Proof.Machine

/-! ### The signed distance -/

/-- R108's `sext_W` is the balanced remainder of the library: `2^W` is even, so its half splits the range. -/
theorem tdiff_eq_bmod {c : Params} (hw : 1 ≤ c.w) (a b : Time) :
    tdiff c a b = Int.bmod ((a : Int) - b) (2 ^ c.w) := by
  have hdouble : 2 ^ (c.w - 1) * 2 = 2 ^ c.w := Nat.two_pow_pred_mul_two hw
  have hhalf : (((2 ^ c.w : Nat) : Int) + 1) / 2 = ((2 ^ (c.w - 1) : Nat) : Int) := by omega
  rw [Int.bmod_def, hhalf, tdiff]

/-- Half the clock's range bounds every distance. -/
theorem tdiff_range {c : Params} (hw : 1 ≤ c.w) (a b : Time) :
    -((2 : Int) ^ (c.w - 1)) ≤ tdiff c a b ∧ tdiff c a b < (2 : Int) ^ (c.w - 1) := by
  have hdouble : (2 : Int) ^ (c.w - 1) * 2 = 2 ^ c.w := pow_sub_one_mul (by omega) 2
  have hle := Int.le_bmod (x := (a : Int) - b) (m := 2 ^ c.w) (Nat.two_pow_pos _)
  have hlt := Int.bmod_lt (x := (a : Int) - b) (m := 2 ^ c.w) (Nat.two_pow_pos _)
  rw [← tdiff_eq_bmod hw] at hle hlt
  push_cast at hle hlt
  omega

/-- A distance differs from the difference of its readings by whole wraps of the clock. -/
theorem tdiff_sub_emod {c : Params} (hw : 1 ≤ c.w) (a b : Time) :
    (tdiff c a b - ((a : Int) - b)) % (2 : Int) ^ c.w = 0 := by
  rw [tdiff_eq_bmod hw, ← Int.emod_eq_emod_iff_emod_sub_eq_zero]
  exact_mod_cast Int.bmod_emod (x := (a : Int) - b) (m := 2 ^ c.w)

/-- Readings `j` and `k` counts after one start are `j - k` apart, whatever wraps occurred (R108). -/
theorem tdiff_readings {c : Params} {n j k : Nat} (hw : 1 ≤ c.w) (hle : -((2 : Int) ^ (c.w - 1)) ≤ (j : Int) - k)
    (hlt : (j : Int) - k < (2 : Int) ^ (c.w - 1)) :
    tdiff c ((n + j) % 2 ^ c.w) ((n + k) % 2 ^ c.w) = (j : Int) - k := by
  rw [← tadd_eq_mod, ← tadd_eq_mod]
  exact tdiff_tadd_tadd hw (by exact_mod_cast hle) (by exact_mod_cast hlt)

/-- Settles O14: the balanced remainder gives range and congruence, and two readings of one clock the exact distance. -/
theorem tdiffIsSignedDistance : Obligations.TdiffIsSignedDistance :=
  ⟨fun _ a b hw => and_assoc.mp ⟨tdiff_range hw a b, tdiff_sub_emod hw a b⟩,
    fun _ _ _ _ => tdiff_readings, by decide, by decide, by decide, by decide⟩

/-- Settles O15: the distance from the deadline to the clock is `j - k`, so its sign compares the two. -/
theorem deadlineExpiresAtItsTime : Obligations.DeadlineExpiresAtItsTime := by
  intro s n j k hw hj hk hms hdeadline
  have hj' : (j : Int) < 2 ^ (s.cfg.w - 1) := by exact_mod_cast hj
  have hk' : (k : Int) < 2 ^ (s.cfg.w - 1) := by exact_mod_cast hk
  rw [expired_iff, hms, hdeadline, tdiff_readings hw (by omega) (by omega)]
  omega

/-! ### Addition and counting -/

/-- Settles O13. -/
theorem taddIsModularAddition : Obligations.TaddIsModularAddition := ⟨tadd_eq_mod, by decide, by decide⟩

/-- Between ticks an `MSINC` completes with the clock and the divider one higher and nothing else changed (R105). -/
theorem exec_pins_of_not_due (x : Pins) {s : State} (hdue : s.tdiv ≠ 9) :
    exec x.instr s = .next { s with ms := s.nextMs, tdiv := s.tdiv + 1 } := by
  have hnow : tadd s.cfg s.ms 1 = s.nextMs := tadd_eq_mod s.cfg s.ms 1
  rw [exec_pins, msincPins_of_not_due x hdue, advanceMs, hnow]
  rfl

/-- Settles O16: the word by its pins, and the two cases of the divider. -/
theorem msincCountsOneMillisecond : Obligations.MsincCountsOneMillisecond :=
  ⟨fun x => decodeOp_msinc x.pttN x.tuneN x.knobN, fun _ _ hdue => exec_msinc_of_due hdue ..,
    fun _ x => exec_pins_of_not_due x⟩

end Sys2Proof.Machine
end

section
/-! PROOFS. The host operations family (44_host_ops.md): a `NOP` drops out of any sequence, the registers and the ports
after `RESET`, and what the pops return. -/
namespace Sys2Proof.Machine

/-! ### Dropping a `NOP` -/

/-- A sequence stops at a reserved word with a refusal that names the word and no state (R44). -/
theorem runWords_cons_of_error {w : StimWord} {e : DecodeError} (hd : decodeOp w = .error e) (ws : List StimWord)
    (s : State) : runWords (w :: ws) s = .refused (.reservedStimulus w e) := by
  have hstep : step (s.setStim (w :: ws ++ s.stim)) = .refused (.reservedStimulus w e) := step_of_error rfl hd
  simp only [runWords, List.length_cons, Host.Core.run, Sys2Proof.core, hstep]

/-- Sequences that answer alike from every state do so after any common beginning. -/
theorem runWords_append_congr {vs ws : List StimWord} (h : ∀ s, runWords vs s = runWords ws s) (us : List StimWord)
    (s : State) : runWords (us ++ vs) s = runWords (us ++ ws) s := by
  induction us generalizing s with
  | nil => exact h s
  | cons u us ih =>
    rw [List.cons_append, List.cons_append]
    cases hd : decodeOp u with
    | ok i => rw [runWords_cons_of_ok hd, runWords_cons_of_ok hd, ih]
    | error e => rw [runWords_cons_of_error hd, runWords_cons_of_error hd]

/-- Settles O12: a leading `NOP` may be dropped from every state, so it may be dropped behind any beginning. -/
theorem nopChangesNothing : Obligations.NopChangesNothing :=
  ⟨decodeOp_nop, fun _ => rfl, fun us ws => runWords_append_congr (runWords_nop ws) us⟩

/-! ### Reset -/

/-- A cycle with `rst` = 1 admits `RESET` alone (R131 (a)). -/
theorem admits_of_rst {c : InPorts} (hrst : c.rst = true) (s : State) (ws : List StimWord) :
    c.admits s ws = true ↔ ws = [wordReset] := by
  simp [admits_cases, hrst]

/-- Settles O9: the registers of `resetBlock` are those of `State.resetWith`, none of which reads the state before. -/
theorem resetSetsEveryRegister : Obligations.ResetSetsEveryRegister := by
  refine ⟨decodeOp_reset, fun s => ⟨resetBlock s, rfl, ?_⟩, fun _ s ws hrst => admits_of_rst hrst s ws⟩
  and_intros <;> rfl

/-! ### The pops and the head ports -/

/-- A `Pop` returns whether there was a head, and its code, 0 for none (R32). -/
theorem pop_returned {α : Type} {n : Nat} (code : α → BitVec n) (q : List α) :
    (pop code q).1 = (decide (0 < q.length), (q.head?.map code).getD 0) := by
  cases q with
  | nil => rfl
  | cons v rest => simp [pop]

/-- The head ports of `SWQ` show what a pop would return (R116, R119). -/
theorem ports_swq (s : State) : (s.ports.swqValid, s.ports.swqData) = (pop SwEvent.code s.swq).1 :=
  (pop_returned SwEvent.code s.swq).symm

/-- The head ports of `ENCQ` show what a pop would return (R117, R119). -/
theorem ports_encq (s : State) : (s.ports.encqValid, s.ports.encqData) = (pop Pulse.code s.encq).1 :=
  (pop_returned Pulse.code s.encq).symm

theorem ports_swqValid_iff (s : State) : s.ports.swqValid = true ↔ 0 < s.swq.length := decide_eq_true_iff

theorem ports_encqValid_iff (s : State) : s.ports.encqValid = true ↔ 0 < s.encq.length := decide_eq_true_iff

/-- `POPSW` writes the queue and the returned pair and nothing else (R116). -/
theorem popsw_eq (s : State) : popsw s = { s with
    swq := s.swq.drop 1, swRet := some (s.ports.swqValid, s.ports.swqData) } := by
  rw [ports_swq, List.drop_one, ← pop_rest SwEvent.code]
  rfl

/-- `POPENC` writes the queue and the returned pair and nothing else (R117). -/
theorem popenc_eq (s : State) : popenc s = { s with
    encq := s.encq.drop 1, encRet := some (s.ports.encqValid, s.ports.encqData) } := by
  rw [ports_encq, List.drop_one, ← pop_rest Pulse.code]
  rfl

/-- Settles O37: the ports show `Pop`'s pair, which the two kinds of queue decide; an item is left behind the head
exactly when there were two. -/
theorem popswReturnsTheHead : Obligations.PopswReturnsTheHead := by
  refine ⟨decodeOp_popsw, fun s => ⟨congrArg _ (popsw_eq s), fun hempty => ?_, fun e rest hcons => ?_, fun t ht => ?_⟩⟩
  · rw [ports_swq, hempty, pop]
  · rw [ports_swq, hcons, pop]
  · obtain rfl : popsw s = t := Host.Outcome.next.inj ht
    rw [ports_swqValid_iff, popsw_swq, List.length_tail, Nat.sub_pos_iff_lt]

/-- Settles O38: as O37, on the pulse queue. -/
theorem popencReturnsTheHead : Obligations.PopencReturnsTheHead := by
  refine ⟨decodeOp_popenc, fun s => ⟨congrArg _ (popenc_eq s), fun hempty => ?_, fun p rest hcons => ?_, fun t ht => ?_⟩⟩
  · rw [ports_encq, hempty, pop]
  · rw [ports_encq, hcons, pop]
  · obtain rfl : popenc s = t := Host.Outcome.next.inj ht
    rw [ports_encqValid_iff, popenc_encq, List.length_tail, Nat.sub_pos_iff_lt]

end Sys2Proof.Machine
end

section
/-! PROOFS. The exceptions family (60_exceptions.md): when a step has a next state (R128), and the orders a clock cycle
leaves open (R131). -/
namespace Sys2Proof.Machine

/-! ### When a step has a next state -/

/-- The stimulus words the decoder accepts are the encodings of the instructions of format `OP` (R41 to R44). -/
theorem decodeOp_eq_ok_iff {S : StimWord} {i : Instr} : decodeOp S = .ok i ↔ i.format = .op ∧ encode i = .op S := by
  constructor
  · intro hd
    have henc : encode i = .op S := encode_of_decode (x := .op S) hd
    obtain ⟨hformat, -⟩ := Laws.EncodesItsRow.all i
    exact ⟨hformat.symm.trans (congrArg CodeWord.format henc), henc⟩
  · rintro ⟨-, henc⟩
    exact decode_of_encode henc

/-- No instruction is refused and none faults, whatever the state (R128). -/
theorem exec_completes (i : Instr) (s : State) : ∃ t, exec i s = .next t := by
  obtain ⟨t, ht, -⟩ := agentsWriteOnlyTheirRegisters i s
  exact ⟨t, ht⟩

/-- A step on a word to come has a next state exactly when the decoder accepts the word. -/
theorem step_completes_iff {s : State} {S : StimWord} {rest : List StimWord} (hs : s.stim = S :: rest) :
    (∃ t, step s = .next t) ↔ ∃ i, decodeOp S = .ok i := by
  cases hd : decodeOp S with
  | ok i => simp [step_of_ok hs hd, exec_completes]
  | error e => simp [step_of_error hs hd]

/-- Settles O7: a step with no word to come is the `NOP`; any other turns on whether the decoder accepts its word. -/
theorem stepTotalOnDefinedWords : Obligations.StepTotalOnDefinedWords := by
  intro s
  cases hs : s.stim with
  | nil => exact ⟨fun _ => .inl rfl, fun _ => ⟨s, step_of_nil hs⟩⟩
  | cons S rest =>
    rw [step_completes_iff hs]
    constructor
    · rintro ⟨i, hd⟩
      obtain ⟨hformat, henc⟩ := decodeOp_eq_ok_iff.mp hd
      exact .inr ⟨i, rest, S, hformat, henc, rfl⟩
    · rintro (hnil | ⟨i, _, _, hformat, henc, hcons⟩)
      · cases hnil
      · cases hcons
        exact ⟨i, decodeOp_eq_ok_iff.mpr ⟨hformat, henc⟩⟩

/-! ### The orders of a clock cycle -/

/-- A millisecond and a sample commute: they are words of different sides of one cycle. -/
theorem msinc_qsample (x y z a b : Bool) (s : State) :
    msinc x y z (qsample a b s) = qsample a b (msinc x y z s) := by
  let c : InPorts := { rst := false, msEn := true, pttN := x, tuneN := y, knobN := z, encA := a, encB := b,
                       swqPop := false, encqPop := false }
  have hswitch : c.SwitchWord (wordMsinc x y z) := .inl rfl
  have hdecoder : c.DecoderWord (wordQ a b) := .inl rfl
  simpa using wordEffect_comm_of_sides hswitch hdecoder s

/-- Settles O42: both operations complete, and their effects commute. -/
theorem producersCommute : Obligations.ProducersCommute := fun s x a b =>
  ⟨_, _, _, exec_pins x s, exec_qsample a b _, exec_qsample a b s,
    congrArg Host.Outcome.next (msinc_qsample x.pttN x.tuneN x.knobN a b s)⟩

/-- A cycle without reset request and strobes admits its sample alone, and `NOP` for a sample that repeats (R65,
R115). -/
theorem admits_of_no_strobe {c : InPorts} (hrst : c.rst = false) (hnone : c.strobes = []) (s : State)
    (ws : List StimWord) :
    c.admits s ws = true ↔ ws = [c.sampleWord] ∨ (ws = [wordNop] ∧ c.repeats s = true) := by
  simp [admits_cases, hrst, hnone, List.perm_singleton, and_comm]

/-- Settles O45, by the serial forms of the two kinds of cycle. -/
theorem resetCycleAdmitsOnlyReset : Obligations.ResetCycleAdmitsOnlyReset := by
  refine ⟨fun c s ws hrst => admits_of_rst hrst s ws, fun c s ws hrst hms hsw henc => ?_⟩
  rw [← repeats_iff]
  exact admits_of_no_strobe hrst ((strobes_eq_nil c).mpr ⟨hms, hsw, henc⟩) s ws

end Sys2Proof.Machine
end

section
/-! PROOFS. The reset and hazards family: that the reset state meets the invariants, that the travel determines `CNT` and
the pulses, and the pulses of one step back and forth. -/
namespace Sys2Proof.Machine

/-- Settles O10: the reset values meet the invariants, and a `RESET` writes them with the parameters kept. -/
theorem resetStateMeetsInvariants : Obligations.ResetStateMeetsInvariants :=
  ⟨fun _ => inv_resetWith, inv_resetWith (by decide), fun s hok => ⟨resetBlock s, rfl, inv_resetBlock hok⟩⟩

/-! ### The travel and its pulses -/

/-- The directions of the pulses, summed (R47). -/
def netDir (ps : List Pulse) : Int := (ps.map Pulse.dir).sum

@[simp] theorem netDir_nil : netDir [] = 0 := rfl

@[simp] theorem netDir_plus : netDir [.plus] = 1 := rfl

@[simp] theorem netDir_minus : netDir [.minus] = -1 := rfl

theorem netDir_append (ps qs : List Pulse) : netDir (ps ++ qs) = netDir ps + netDir qs := by
  simp [netDir]

/-- From `s` to `t` the decoder moved `d` places and delivered the pulses `new`, each pulse standing for a whole threshold
of places: no place is lost between `CNT` and the queue (R157). -/
structure Travelled (d : Int) (new : List Pulse) (s t : State) : Prop where
  cfg : t.cfg = s.cfg
  range : CntInRange t
  pulses : t.encq = s.encq ++ new
  balance : t.cnt + s.cfg.detentThresh * netDir new = s.cnt + d

section
variable {d e : Int} {new more : List Pulse} {s t u : State}

theorem Travelled.refl (h : CntInRange s) : Travelled 0 [] s s :=
  ⟨rfl, h, (List.append_nil _).symm, by simp⟩

theorem Travelled.trans (h : Travelled d new s t) (h' : Travelled e more t u) :
    Travelled (d + e) (new ++ more) s u where
  cfg := h'.cfg.trans h.cfg
  range := h'.range
  pulses := by rw [h'.pulses, h.pulses, List.append_assoc]
  balance := by
    have hfirst := h.balance
    have hsecond := h'.balance
    rw [h.cfg] at hsecond
    rw [netDir_append, Int.mul_add]
    omega

/-- A balance with the counter in range is a division with remainder: the counter is the remainder and the pulses are the
quotient, toward minus infinity. -/
theorem Travelled.cnt_and_netDir (h : Travelled d new s t) :
    t.cnt = (s.cnt + d) % (s.cfg.detentThresh : Int) ∧ netDir new = (s.cnt + d) / (s.cfg.detentThresh : Int) := by
  obtain ⟨hnonneg, hlt⟩ := h.range
  rw [h.cfg] at hlt
  obtain ⟨hquot, hrem⟩ := (Int.ediv_emod_unique (Int.lt_of_le_of_lt hnonneg hlt)).mpr ⟨h.balance, hnonneg, hlt⟩
  exact ⟨hrem.symm, hquot.symm⟩

end

/-- A count of at most one place, with room for its pulse: a sum outside the range is one place past an end of it, so a
wrap takes exactly one threshold off the counter or puts one on (R61 to R64). -/
theorem travelled_quadAccumulate {d : Int} (cur : BitVec 2) {s : State} (hd : -1 ≤ d ∧ d ≤ 1) (h : CntInRange s)
    (hroom : s.encq.length < s.cfg.encqDepth) :
    ∃ new, new.length ≤ 1 ∧ Travelled d new s (quadAccumulate d cur s) := by
  have hrange : CntInRange (quadAccumulate d cur s) := h.quadAccumulate d cur
  have hcfg : (quadAccumulate d cur s).cfg = s.cfg := quadAccumulate_cfg d cur s
  obtain ⟨hnonneg, hlt⟩ := h
  obtain ⟨-, hhigh, hneg, hwithin⟩ := counted_quadAccumulate d cur s
  rcases lt_or_ge (s.cnt + d) 0 with hbelow | hnonneg'
  · obtain ⟨hcnt, hpush, -⟩ := hneg hbelow
    obtain ⟨hencq, -⟩ := hpush hroom
    exact ⟨[.minus], Nat.le_refl 1, hcfg, hrange, hencq, by rw [hcnt, netDir_minus]; omega⟩
  · rcases lt_or_ge (s.cnt + d) s.cfg.detentThresh with hlt' | habove
    · obtain ⟨hcnt, hencq, -⟩ := hwithin hnonneg' hlt'
      exact ⟨[], Nat.zero_le 1, hcfg, hrange, by rw [hencq, List.append_nil], by rw [hcnt, netDir_nil]; omega⟩
    · obtain ⟨hcnt, hpush, -⟩ := hhigh habove
      obtain ⟨hencq, -⟩ := hpush hroom
      exact ⟨[.plus], Nat.le_refl 1, hcfg, hrange, hencq, by rw [hcnt, netDir_plus]; omega⟩

theorem quadMove_bounds (prev cur : BitVec 2) : -1 ≤ quadMove prev cur ∧ quadMove prev cur ≤ 1 := by
  unfold quadMove
  split_ifs <;> decide

/-- Any samples, with room for a pulse of each: induction on the samples, the movement of each added to that of the
rest. -/
theorem travelled_runWords (qs : List (Bool × Bool)) {s : State} (hvalid : s.qvalid = true) (h : CntInRange s)
    (hroom : s.encq.length + qs.length ≤ s.cfg.encqDepth) :
    ∃ t new, runWords (qs.map (fun q => wordQ q.1 q.2)) s = .next t ∧ Travelled (quadTravel s.qprev qs) new s t := by
  induction qs generalizing s with
  | nil => exact ⟨s, [], runWords_nil s, .refl h⟩
  | cons q qs ih =>
    rw [List.length_cons] at hroom
    obtain ⟨first, hlength, hfirst⟩ :=
      travelled_quadAccumulate (sample q.1 q.2) (quadMove_bounds s.qprev (sample q.1 q.2)) h (by omega)
    rw [← qsample_of_valid q.1 q.2 hvalid] at hfirst
    obtain ⟨hprev, hvalid'⟩ := qsample_prev q.1 q.2 s
    obtain ⟨t, rest, ht, hrest⟩ := ih hvalid' hfirst.range
      (by rw [hfirst.pulses, hfirst.cfg, List.length_append]; omega)
    rw [hprev] at hrest
    exact ⟨t, first ++ rest, by rw [List.map_cons, runWords_q, ht], hfirst.trans hrest⟩

/-- Settles O34: after the samples the counter is in range and balances the travel with the pulses. -/
theorem travelDeterminesCountAndPulses : Obligations.TravelDeterminesCountAndPulses := by
  intro s qs _ hvalid hnonneg hlt hroom
  obtain ⟨t, new, ht, htravel⟩ := travelled_runWords qs hvalid ⟨hnonneg, hlt⟩ hroom
  obtain ⟨hcnt, hdir⟩ := htravel.cnt_and_netDir
  exact ⟨t, new, ht, hcnt, htravel.pulses, hdir⟩

/-! ### One step back and forth -/

/-- The way back along the cycle is the way there reversed. -/
theorem quadMove_swap : ∀ x y : BitVec 2, quadMove y x = -quadMove x y := by decide

/-- A place back and a place forward again: from 0 the counter wraps to the top of its range and back, pushing -1 and +1,
and from any other count it stays within the range (R61, R62, R64). -/
theorem quadAccumulate_back_forth (there back : BitVec 2) {s t : State} (h : CntInRange s)
    (ht : quadAccumulate 1 back (quadAccumulate (-1) there s) = t) :
    t.cnt = s.cnt ∧ t.qprev = back ∧
      (s.cnt = 0 → s.encq.length + 2 ≤ s.cfg.encqDepth → t.encq = s.encq ++ [.minus, .plus]) ∧
      (0 < s.cnt → SameEnc s t) := by
  subst ht
  obtain ⟨hnonneg, hlt⟩ := h
  obtain ⟨-, -, hneg, hwithin⟩ := counted_quadAccumulate (-1) there s
  have hcfg : (quadAccumulate (-1) there s).cfg = s.cfg := quadAccumulate_cfg (-1) there s
  generalize quadAccumulate (-1) there s = u at hneg hwithin hcfg ⊢
  obtain ⟨hprev, hhigh', -, hwithin'⟩ := counted_quadAccumulate 1 back u
  rw [hcfg] at hhigh' hwithin'
  rcases Int.lt_or_eq_of_le hnonneg with hpos | hzero
  · obtain ⟨hcnt, hencq, herr⟩ := hwithin (by omega) (by omega)
    obtain ⟨hcnt', hencq', herr'⟩ := hwithin' (by omega) (by omega)
    exact ⟨by omega, hprev, fun hzero => by omega, fun _ => ⟨hencq'.trans hencq, herr'.trans herr⟩⟩
  · obtain ⟨hcnt, hpush, -⟩ := hneg (by omega)
    obtain ⟨hcnt', hpush', -⟩ := hhigh' (by omega)
    refine ⟨hcnt'.trans hzero, hprev, fun _ hroom => ?_, fun hpos => by omega⟩
    obtain ⟨hencq, -⟩ := hpush (by omega)
    obtain ⟨hencq', -⟩ := hpush' (by rw [hencq, hcfg, List.length_append, List.length_singleton]; omega)
    rw [hencq', hencq, List.append_assoc, List.singleton_append]

/-- Settles O35: the two samples count a place back and a place forward. -/
theorem chatterPulsesOnlyAtZero : Obligations.ChatterPulsesOnlyAtZero := by
  intro s a b c d hvalid hprev hmove hnonneg hlt
  obtain ⟨hprev', hvalid'⟩ := qsample_prev c d s
  have hback : quadMove (sample c d) (sample a b) = 1 := by rw [quadMove_swap, hmove, Int.neg_neg]
  have hrun : qsample a b (qsample c d s) =
      quadAccumulate 1 (sample a b) (quadAccumulate (-1) (sample c d) s) := by
    rw [qsample_of_valid a b hvalid', hprev', hback, qsample_of_valid c d hvalid, hprev, hmove]
  refine ⟨qsample a b (qsample c d s), by rw [runWords_q, runWords_q, runWords_nil], ?_⟩
  rw [hprev]
  exact quadAccumulate_back_forth (sample c d) (sample a b) ⟨hnonneg, hlt⟩ hrun.symm

end Sys2Proof.Machine
end
